-- ==== Sys2Proof/Word.lean ====
section
/-! DEFINITION. The word types of the telemetry packet core: the byte of the wire and of the CRC register
(00_scope.md R9), and the 32-bit word of a host register and of a command (00_scope.md R10). -/

namespace Sys2Proof

/-- One byte: a wire byte, the CRC register (40_crc.md R120), an immediate (30_encoding.md R92). -/
abbrev Byte := BitVec 8

/-- One host register or command word, 32 bits (00_scope.md R10, REG_WIDTH). -/
abbrev Word := BitVec 32

end Sys2Proof
end

