-- ==== Sys2Proof/Config.lean ====
section
/-! DEFINITION. The parameters of the core (00_scope.md R9, R10) and the free values: what the spec leaves
open is an opaque constant without a body, so nothing can be proved about which value it is. -/

namespace Sys2Proof.Config

/-- FRAME_LEN and SRC_REQ_LEN: a wire frame, and one source request, is 32 bytes (00_scope.md R9, R10). -/
def frameLen : Nat := 32

/-- PAYLOAD_LEN, and CRC_POS: the first 31 bytes are the payload, byte 31 the checksum (00_scope.md R9). -/
def payloadLen : Nat := 31

/-- CRC_POLY: x^8 + x^2 + x + 1 with the x^8 term implicit (00_scope.md R9; 40_crc.md R120). -/
def crcPoly : Byte := 0x07

/-- CRC_INIT (00_scope.md R9; 40_crc.md R120). -/
def crcInit : Byte := 0x00

/-- CRC_CHECK: the checksum the self-test vector must have (00_scope.md R9; 40_crc.md R127). -/
def crcCheck : Byte := 0xF4

/-- REG_WIDTH: the only legal width of a host access, in bits (00_scope.md R10; 20_memory.md R64). -/
def regWidth : Nat := 32

/-- REG_SPACE: the register space is 0x48 bytes (00_scope.md R10; 10_state.md R35). -/
def regSpace : Nat := 0x48

/-- UNIT_BASE: where the platform places the register space; OPEN in the spec (00_scope.md R10;
93_implementation_defined.md U16). -/
opaque unitBase : Nat

/-- A payload whose record stands for the record registers' unspecified contents after reset number `reset`
(10_state.md R31, R43; 93_implementation_defined.md U1, "any value"): every record is the record of some payload
(41_decoder.md R171). -/
opaque unspecifiedPayload (reset : Nat) : List Byte

/-- Bytes, of which the first 32 stand for the frame buffer's unspecified contents, the `draw`-th time they become
unspecified (10_state.md R27, R43; 93_implementation_defined.md U2, "any value"). -/
opaque unspecifiedFrameBytes (draw : Nat) : List Byte

end Sys2Proof.Config
end

