-- ==== Sys2Proof/Machine/State.lean ====
section
/-! DEFINITION. The state of the core as plain data: every register and field of 10_state.md, the reasons a step
can stop, the moves of the agents outside, and the state after reset (10_state.md R43). -/

namespace Sys2Proof.Machine

/-- The fields of one Telemetry Record (10_state.md R30; 41_decoder.md R150). The four IEEE-754 fields are raw bit
patterns (41_decoder.md R154). -/
structure Record where
  timestampMs  : BitVec 64  -- REC_TS
  latitude     : BitVec 32  -- REC_LAT
  longitude    : BitVec 32  -- REC_LON
  altitudeM    : BitVec 32  -- REC_ALT
  temperatureC : BitVec 32  -- REC_TEMP
  sensorId     : BitVec 16  -- REC_SENSOR
  batteryPct   : Byte       -- REC_BATT
  statusFlags  : Byte       -- REC_STATUS
  reserved     : Byte       -- REC_RSVD
deriving DecidableEq, Repr

/-- The framer states (10_state.md R24). The reserved codes 6 and 7 are "never held" and have no constructor. -/
inductive FrameState where
  | awaitingFrame      -- 0
  | readPending        -- 1, a SrcRead(32) is outstanding
  | haveCompleteFrame  -- 2, validation is pending
  | shortFrame         -- 3, terminal
  | endOfStream        -- 4, terminal
  | sourceError        -- 5, terminal
deriving DecidableEq, Repr

/-- The outcome codes LAST_CODE can hold (30_encoding.md R97). Codes 6 and 7 are never emitted. -/
inductive OutcomeCode where
  | none               -- 0, reset value only
  | decoded            -- 1
  | checksumMismatch   -- 2
  | shortFrame         -- 3
  | endOfStream        -- 4
  | sourceUnavailable  -- 5
deriving DecidableEq, Repr

/-- One element of the outcome stream OUT (10_state.md R33; 30_encoding.md R97). -/
inductive FrameOutcome where
  | decoded (record : Record)
  | checksumMismatch
  | shortFrame (length : Nat)
  | endOfStream
  | sourceUnavailable
deriving DecidableEq, Repr

/-- The 18 host registers, named as in 10_state.md R35. -/
inductive Reg where
  | cmd | status | crcr | outcome | cntTotal | cntGood | cntBadCrc | cntShort | recTsLo | recTsHi | recLat | recLon
  | recAlt | recTemp | recSensor | recBatt | recStatus | recRsvd
deriving DecidableEq, Repr

/-- One access of the host to the register port, `width` in bits, `offset` in bytes from UNIT_BASE
(20_memory.md R64). -/
inductive Access where
  | read (width offset : Nat)
  | write (width offset : Nat) (value : Word)
deriving DecidableEq, Repr

/-- What the register port answered last (20_memory.md R64; 60_exceptions.md R254). -/
inductive BusResponse where
  | idle                   -- no access answered yet
  | written                -- a write was taken
  | data (value : Word)    -- a read's value
  | error (offset : Nat)   -- BusError, carrying the offending offset
deriving DecidableEq, Repr

/-- The host-interface errors (60_exceptions.md R250 item 2, R255). -/
inductive HostError where
  | illegalCommand            -- R251, R252
  | commandOverrun            -- R253
  | busError (offset : Nat)   -- R254
deriving DecidableEq, Repr

/-- The source's answer to the outstanding SrcRead(32) (42_framer.md R183): the next `count` bytes of the stream, or
`Fail`, with `count` bytes delivered together with the failure and discarded (42_framer.md R190). -/
inductive SourceAnswer where
  | deliver (count : Nat)
  | fail (count : Nat)
deriving DecidableEq, Repr

/-- One move of one agent (00_scope.md R7, R8). -/
inductive Event where
  /-- The host performs a register access. -/
  | host (access : Access)
  /-- The byte source answers the outstanding request. -/
  | source (answer : SourceAnswer)
  /-- The byte source answers a request that a reset has abandoned (70_reset_and_hazards.md R281). -/
  | lateAnswer
  /-- The core performs its validate step (42_framer.md R187). -/
  | core
  /-- The reset input is asserted; it overrides the access in progress, if any (60_exceptions.md R256), and an
  abandoned request consumed `consumed` bytes of the source (70_reset_and_hazards.md R281). -/
  | resetInput (overridden : Option Access) (consumed : Nat)
  /-- The platform attaches a new byte source (70_reset_and_hazards.md R283). -/
  | attach (bytes : List Byte)
deriving DecidableEq, Repr

/-- The contents of the frame buffer FB (10_state.md R27; 20_memory.md R65) in one canonical form: addresses strictly
rising, no byte listed that equals what an unlisted address reads as. -/
abbrev Memory := List Host.Cell

/-- What an address that is not listed reads as. DESIGN CHOICE, unsafe: FB's contents after reset are unspecified
(10_state.md R43), and no rule reads them (log 5). -/
def Memory.unlisted : Byte := 0x00

/-- Why a step stops with a fault. No command raises one. -/
inductive Fault where
  /-- Raised by a source's answer while no request is outstanding, or a late answer while none is abandoned. Safe: "The
  source never answers without a request" (42_framer.md R183). -/
  | unrequestedAnswer
  /-- Raised by an event that has the source deliver, or an abandoned request consume, more than 32 bytes. Safe: the
  source "never supplies more than 32 bytes" (42_framer.md R183; 70_reset_and_hazards.md R281). -/
  | oversizedAnswer
deriving DecidableEq, Repr

/-- Why the machine takes no step. No command that is modelled ends so. -/
inductive Refusal where
  /-- Raised by exec's arm of an instruction that has no meaning yet. Safe: the machine stops. -/
  | notModelled (mnemonic : String)
  /-- Raised by the step when a request is outstanding and no agent moves: "stuck" (93_implementation_defined.md U15).
  Safe: no run goes on that the core could not take. -/
  | sourceSilent
  /-- Raised by the step when no agent moves and no source request is outstanding. Safe: nothing happens. -/
  | noEvent
  /-- Raised by a move of the core while its validate step is not enabled (42_framer.md R187). Safe: the core has
  no other move of its own. -/
  | coreNotEnabled
deriving DecidableEq, Repr

/-- The state of the core (10_state.md section 2) and, from `response` on, of what stands outside it. -/
structure State where
  /-- CRC, the host-visible accumulator (R22). -/
  crc          : Byte
  /-- FSTATE (R23, R24). -/
  fstate       : FrameState
  /-- ST_DONE (R26). -/
  stDone       : Bool
  /-- ST_PASS (R26). -/
  stPass       : Bool
  /-- FB[0..31] (R27). -/
  fb           : Memory
  /-- CNT_TOTAL (R28). -/
  cntTotal     : Word
  /-- CNT_GOOD (R28). -/
  cntGood      : Word
  /-- CNT_BADCRC (R28). -/
  cntBadCrc    : Word
  /-- CNT_SHORT (R28). -/
  cntShort     : Word
  /-- LAST_CODE (R29). -/
  lastCode     : OutcomeCode
  /-- LAST_SHORT_LEN (R29). -/
  lastShortLen : BitVec 5
  /-- REC_TS to REC_RSVD (R30). -/
  record       : Record
  /-- REC_VALID (R31). -/
  recValid     : Bool
  /-- ILLCMD, sticky (R32). -/
  illcmd       : Bool
  /-- OVR, sticky (R32). -/
  ovr          : Bool
  /-- OUT, the outcomes emitted since the start of the run, oldest first (R33). -/
  out          : List FrameOutcome
  /-- The last answer of the register port (log 11). -/
  response     : BusResponse
  /-- The moves of the agents still to come, the next one first (log 1). -/
  events       : List Event
  /-- The bytes the attached source has not delivered yet (20_memory.md R66; log 7). -/
  stream       : List Byte
  /-- Requests that a reset has abandoned and the source has not answered (70_reset_and_hazards.md R281; log 8). -/
  abandoned    : Nat
  /-- How often ResetCore has run: numbers the unspecified record (log 6). -/
  resets       : Nat
  /-- How often FB has become unspecified: numbers its free bytes (log 6). -/
  frameDraws   : Nat
deriving DecidableEq, Repr

/-- The record of all zeros. -/
def Record.zero : Record := ⟨0, 0, 0, 0, 0, 0, 0, 0, 0⟩

/-- The machine right after reset (10_state.md R43; 70_reset_and_hazards.md R280). The record registers and FB are
unspecified there: their zeros are DESIGN CHOICES (log 4, log 5) that no host read returns (log 3). -/
def State.reset : State where
  crc := 0x00
  fstate := .awaitingFrame
  stDone := true
  stPass := true
  fb := []
  cntTotal := 0
  cntGood := 0
  cntBadCrc := 0
  cntShort := 0
  lastCode := .none
  lastShortLen := 0
  record := Record.zero
  recValid := false
  illcmd := false
  ovr := false
  out := []
  response := .idle
  events := []
  stream := []
  abandoned := 0
  resets := 0
  frameDraws := 0

end Sys2Proof.Machine
end

