-- ==== Sys2Proof/Machine/Flags.lean ====
section
/-! DEFINITION. The flags: the codes of FSTATE and LAST_CODE, BUSY, the layouts of STATUS and OUTCOME (10_state.md R24
to R38), and the predicates over a record's status byte (41_decoder.md R160). -/

namespace Sys2Proof.Machine

/-- FSTATE's 3-bit code (10_state.md R24). -/
def FrameState.code : FrameState → BitVec 3
  | .awaitingFrame => 0
  | .readPending => 1
  | .haveCompleteFrame => 2
  | .shortFrame => 3
  | .endOfStream => 4
  | .sourceError => 5

/-- BUSY's value for a framer state (10_state.md R25). -/
def FrameState.busy : FrameState → Bool
  | .readPending => true
  | .haveCompleteFrame => true
  | .awaitingFrame => false
  | .shortFrame => false
  | .endOfStream => false
  | .sourceError => false

/-- "The terminal states are {3, 4, 5}" (10_state.md R24). -/
def FrameState.terminal : FrameState → Bool
  | .shortFrame => true
  | .endOfStream => true
  | .sourceError => true
  | .awaitingFrame => false
  | .readPending => false
  | .haveCompleteFrame => false

/-- LAST_CODE's 3-bit code (30_encoding.md R97). -/
def OutcomeCode.code : OutcomeCode → BitVec 3
  | .none => 0
  | .decoded => 1
  | .checksumMismatch => 2
  | .shortFrame => 3
  | .endOfStream => 4
  | .sourceUnavailable => 5

/-- The code an emitted outcome leaves in LAST_CODE (30_encoding.md R97). -/
def FrameOutcome.code : FrameOutcome → OutcomeCode
  | .decoded _ => .decoded
  | .checksumMismatch => .checksumMismatch
  | .shortFrame _ => .shortFrame
  | .endOfStream => .endOfStream
  | .sourceUnavailable => .sourceUnavailable

/-- What an emitted outcome leaves in LAST_SHORT_LEN: n for ShortFrame(n), "0 after any other outcome"
(10_state.md R29). -/
def FrameOutcome.shortLen : FrameOutcome → BitVec 5
  | .shortFrame n => BitVec.ofNat 5 n
  | .decoded _ => 0
  | .checksumMismatch => 0
  | .endOfStream => 0
  | .sourceUnavailable => 0

/-- x[BUSY] (10_state.md R25): read, never written. -/
def State.busy (s : State) : Bool := s.fstate.busy

/-- The outstanding source request exists iff FSTATE = READ_PENDING (10_state.md R34). -/
def State.requestOutstanding (s : State) : Bool := s.fstate = .readPending

/-- A flag as bit `i` of a register. -/
def flagAt (b : Bool) (i : Nat) : Word := (BitVec.ofBool b).setWidth 32 <<< i

/-- What STATUS reads as: FSTATE at [2:0], then BUSY, ST_DONE, ST_PASS, REC_VALID, ILLCMD and OVR at bits 3 to 8; the
reserved bits [31:9] are 0 (10_state.md R36). -/
def State.statusWord (s : State) : Word :=
  s.fstate.code.setWidth 32 ||| flagAt s.busy 3 ||| flagAt s.stDone 4 ||| flagAt s.stPass 5 ||| flagAt s.recValid 6 |||
  flagAt s.illcmd 7 ||| flagAt s.ovr 8

/-- What OUTCOME reads as: LAST_CODE at [2:0], LAST_SHORT_LEN at [12:8], 0 elsewhere (10_state.md R38). -/
def State.outcomeWord (s : State) : Word := s.lastCode.code.setWidth 32 ||| s.lastShortLen.setWidth 32 <<< 8

/-- SystemOk(s) (41_decoder.md R160). -/
def systemOk (flags : Byte) : Bool := flags.getLsbD 0

/-- GpsLock(s) (41_decoder.md R160). -/
def gpsLock (flags : Byte) : Bool := flags.getLsbD 1

/-- PayloadActive(s) (41_decoder.md R160). -/
def payloadActive (flags : Byte) : Bool := flags.getLsbD 2

end Sys2Proof.Machine
end

