-- ==== Sys2Proof/Syntax.lean ====
section
/-! DEFINITION. The commands of the core: one constructor for each row of spec/opcode_table.json
(30_encoding.md R91). A command "plays the part of an instruction" (00_scope.md R16). -/

namespace Sys2Proof

/-- A command of the host. CRC.UPD alone has an operand, one unsigned byte (30_encoding.md R92); the ignored bits
of a command word are no part of the command (30_encoding.md R93). -/
inductive Instr where
  | nop                   -- NOP, 43_control.md R231
  | crcInit               -- CRC.INIT, 40_crc.md R123
  | crcUpd (imm8 : Byte)  -- CRC.UPD #b, 40_crc.md R124
  | selftest              -- SELFTEST, 40_crc.md R125
  | frameStep             -- FRAME.STEP, 42_framer.md R180
  | sreset                -- SRESET, 43_control.md R232
deriving DecidableEq, Repr

end Sys2Proof
end

