-- ==== Sys2Proof/Decode.lean ====
section
/-! DEFINITION. From command words to commands and back (30_encoding.md R90 to R95, R104), and the little-endian
byte order of the wire and of the register bus (20_memory.md R62, R63). -/

namespace Sys2Proof

/-- Little-endian value of a byte sequence: the sum of B[i]·2^(8i) (00_scope.md R13, LE_n; 20_memory.md R62). -/
def leValue : List Byte → Nat
  | [] => 0
  | b :: rest => b.toNat + 256 * leValue rest

/-- The `n` low bytes of a number, lowest first: the inverse of `leValue` (20_memory.md R62, R63). -/
def leBytes : Nat → Nat → List Byte
  | 0, _ => []
  | n + 1, v => BitVec.ofNat 8 v :: leBytes n (v / 256)

/-- OP = v[7:0] (30_encoding.md R90). -/
def cmdOp (v : Word) : Byte := v.extractLsb' 0 8

/-- IMM8 = v[15:8] (30_encoding.md R90, R92). -/
def cmdImm8 (v : Word) : Byte := v.extractLsb' 8 8

/-- Why a word or a byte sequence is no command. -/
inductive DecodeError where
  /-- OP is 0x06 to 0xFF (30_encoding.md R94). -/
  | illegalOpcode (op : Byte)
  /-- A command is exactly one 32-bit word, four bytes (30_encoding.md R95). -/
  | notOneWord (bytes : Nat)
deriving DecidableEq, Repr

/-- The opcode map (30_encoding.md R91; 43_control.md R230). Total on every word; OP 0x06 to 0xFF is rejected by
name, and no bit but OP, and IMM8 of CRC.UPD, is looked at (30_encoding.md R93). -/
def decode (v : Word) : Except DecodeError Instr :=
  match (cmdOp v).toNat with
  | 0x00 => .ok .nop
  | 0x01 => .ok .crcInit
  | 0x02 => .ok (.crcUpd (cmdImm8 v))
  | 0x03 => .ok .selftest
  | 0x04 => .ok .frameStep
  | 0x05 => .ok .sreset
  | _ => .error (.illegalOpcode (cmdOp v))

/-- The word a command assembles to (30_encoding.md R104): the ignored bits are 0. -/
def encode : Instr → Word
  | .nop => 0x00000000
  | .crcInit => 0x00000001
  | .crcUpd imm8 => (imm8.setWidth 32 <<< 8) ||| 0x02
  | .selftest => 0x00000003
  | .frameStep => 0x00000004
  | .sreset => 0x00000005

/-- The four byte lanes of a word, lowest byte address first (20_memory.md R63). -/
def wordBytes (v : Word) : List Byte := leBytes 4 v.toNat

/-- A command as the bytes of its one word, lowest address first: total on any bytes (30_encoding.md R95;
20_memory.md R63). -/
def decodeBytes (bytes : List Byte) : Except DecodeError Instr :=
  match bytes.length with
  | 4 => decode (BitVec.ofNat 32 (leValue bytes))
  | n => .error (.notOneWord n)

/-- What the decoder reads from the table's `nbits`-bit word `w`, bit 0 its least significant bit and every bit
above `nbits` 0: the word is laid out in its four byte lanes and decoded. -/
def decodeTableWord (nbits w : Nat) : Option Instr :=
  match decodeBytes (leBytes 4 (w % 2 ^ nbits)) with
  | .ok i => some i
  | .error _ => none

end Sys2Proof
end

