-- ==== Sys2Proof/Machine/Checksum.lean ====
section
/-! DEFINITION. The checksum function: CRC-8, MSB first (40_crc.md R120 to R122), and its required test vector
(40_crc.md R125). -/

namespace Sys2Proof.Machine

/-- One of the 8 rounds of a byte step: bit 7 is tested and shifted out (40_crc.md R121). -/
def crcShift (r : Byte) : Byte :=
  if r.getLsbD 7 then (r <<< 1) ^^^ Config.crcPoly else r <<< 1

/-- CrcStep(r, b) (40_crc.md R121). -/
def crcStep (r b : Byte) : Byte := crcShift^[8] (r ^^^ b)

/-- A running CRC taken on over a byte sequence: the left fold of CrcStep (40_crc.md R122). -/
def crcFold (r : Byte) (bytes : List Byte) : Byte := bytes.foldl crcStep r

/-- Compute(B): the fold from 0x00 (40_crc.md R122). A function of the bytes alone. -/
def compute (bytes : List Byte) : Byte := crcFold Config.crcInit bytes

/-- The ASCII bytes of "123456789" (40_crc.md R125). -/
def selfTestVector : List Byte := [0x31, 0x32, 0x33, 0x34, 0x35, 0x36, 0x37, 0x38, 0x39]

/-- The required self-test: has the vector the checksum 0xF4? (40_crc.md R125, R127) -/
def selfTestPasses : Bool := compute selfTestVector == Config.crcCheck

end Sys2Proof.Machine
end

