-- ==== Sys2Proof/Machine/Operands.lean ====
section
/-! DEFINITION. The operand forms of the core: the fields of a payload (30_encoding.md R98; 41_decoder.md R150), the
byte lanes of a register (20_memory.md R63), and the spec-only encoder of records (41_decoder.md R170). -/

namespace Sys2Proof.Machine

/-- LE_n(P, off): the `n`-byte little-endian field at `off` (00_scope.md R13; 20_memory.md R62). -/
def payloadField (payload : List Byte) (off n : Nat) : BitVec (8 * n) :=
  BitVec.ofNat (8 * n) (leValue ((payload.drop off).take n))

/-- Decode(P), total on every byte sequence; the core gives it the 31 payload bytes FB[0..30]
(41_decoder.md R150, R151). -/
def decodePayload (payload : List Byte) : Record where
  timestampMs := payloadField payload 0 8
  latitude := payloadField payload 8 4
  longitude := payloadField payload 12 4
  altitudeM := payloadField payload 16 4
  temperatureC := payloadField payload 20 4
  sensorId := payloadField payload 24 2
  batteryPct := payloadField payload 26 1
  statusFlags := payloadField payload 27 1
  reserved := payloadField payload 28 1

/-- Encode(rec, u29, u30), spec-only (41_decoder.md R170): the producer's 31 payload bytes. -/
def encodePayload (r : Record) (u29 u30 : Byte) : List Byte :=
  leBytes 8 r.timestampMs.toNat ++ leBytes 4 r.latitude.toNat ++ leBytes 4 r.longitude.toNat ++
  leBytes 4 r.altitudeM.toNat ++ leBytes 4 r.temperatureC.toNat ++ leBytes 2 r.sensorId.toNat ++
  [r.batteryPct, r.statusFlags, r.reserved, u29, u30]

/-- Frame(rec, u29, u30) = P ++ [Compute(P)], spec-only (41_decoder.md R170). -/
def wireFrame (r : Record) (u29 u30 : Byte) : List Byte :=
  encodePayload r u29 u30 ++ [compute (encodePayload r u29 u30)]

/-- Bytes 0 to 30 of a frame (30_encoding.md R96). -/
def framePayload (frame : List Byte) : List Byte := frame.take Config.payloadLen

/-- Byte 31 of a frame, its checksum (30_encoding.md R96, R99). -/
def frameChecksum (frame : List Byte) : Byte := frame.getD Config.payloadLen 0

/-- "A frame is valid iff F[31] = Compute(F[0..30])" (30_encoding.md R96). -/
def frameValid (frame : List Byte) : Bool := compute (framePayload frame) == frameChecksum frame

/-- The outcome of a complete frame, a function of its 32 bytes alone (42_framer.md R187, R188, R194). -/
def frameOutcome (frame : List Byte) : FrameOutcome :=
  if frameValid frame then .decoded (decodePayload (framePayload frame)) else .checksumMismatch

/-- Byte lane `i` of a register on the bus: bits [8i+7:8i] (20_memory.md R63). -/
def byteLane (v : Word) (i : Nat) : Byte := v.extractLsb' (8 * i) 8

/-- The platform's address of a register offset: UNIT_BASE + offset (20_memory.md R61). -/
def hostAddress (off : Nat) : Nat := Config.unitBase + off

/-- The register offset of a platform address; none below UNIT_BASE, where the unit is not addressed
(20_memory.md R61, R71). -/
def portOffset (address : Nat) : Option Nat :=
  if Config.unitBase ≤ address then some (address - Config.unitBase) else none

end Sys2Proof.Machine
end

