-- ==== Sys2Proof/Machine/Ops.lean ====
section
/-! DEFINITION. The named operations over the frame buffer and the registers: the only ways a rule touches state
(00_scope.md R13). -/

namespace Sys2Proof.Machine

/-! ### The frame buffer (20_memory.md R65) -/

/-- One byte of the buffer. -/
def Memory.read : Memory → Nat → Byte
  | [], _ => Memory.unlisted
  | (k, v) :: rest, a => if a = k then v else if a < k then Memory.unlisted else Memory.read rest a

/-- A cell put before the rest, unless an unlisted address reads the same. -/
def Memory.consCell (a : Nat) (b : Byte) (rest : Memory) : Memory :=
  if b = Memory.unlisted then rest else (a, b) :: rest

/-- One byte written, the canonical form kept. -/
def Memory.write : Memory → Nat → Byte → Memory
  | [], a, b => Memory.consCell a b []
  | (k, v) :: rest, a, b =>
    if a = k then Memory.consCell a b rest
    else if a < k then Memory.consCell a b ((k, v) :: rest)
    else (k, v) :: Memory.write rest a b

/-- Bytes written one after another from address `a` on (00_scope.md R13, MemWrite). -/
def Memory.store : Memory → Nat → List Byte → Memory
  | m, _, [] => m
  | m, a, b :: rest => Memory.store (Memory.write m a b) (a + 1) rest

/-- The `n` bytes from address `a` on, in order (00_scope.md R13: MemRead is `leValue` of them). -/
def Memory.load (m : Memory) (a : Nat) : Nat → List Byte
  | 0 => []
  | n + 1 => Memory.read m a :: Memory.load m (a + 1) n

/-- The canonical form of a list of cells whose addresses are at least `low` and below the buffer's end. -/
def Memory.wfFrom : Nat → Memory → Bool
  | _, [] => true
  | low, (k, v) :: rest => low ≤ k && k < Config.frameLen && v != Memory.unlisted && Memory.wfFrom (k + 1) rest

/-- The canonical form: addresses strictly rising, all in 0..31 (10_state.md R27), no byte listed that an unlisted
address reads as. -/
def Memory.wf (m : Memory) : Bool := Memory.wfFrom 0 m

/-- The 32 bytes of the frame in FB (30_encoding.md R96). -/
def State.frame (s : State) : List Byte := s.fb.load 0 Config.frameLen

/-! ### Free values (93_implementation_defined.md U1, U2) -/

/-- What the record registers hold after reset number `n`: unspecified (10_state.md R31, R43). -/
def unspecifiedRecord (n : Nat) : Record := decodePayload (Config.unspecifiedPayload n)

/-- What FB holds the `n`-th time its contents become unspecified (10_state.md R27). -/
def unspecifiedFrame (n : Nat) : Memory := Memory.store [] 0 ((Config.unspecifiedFrameBytes n).take Config.frameLen)

/-- FB's contents become unspecified (10_state.md R27). -/
def State.forgetFrame (s : State) : State :=
  { s with fb := unspecifiedFrame s.frameDraws, frameDraws := s.frameDraws + 1 }

/-- What the record registers read as: their contents, and while REC_VALID = 0 "no defined value" (10_state.md R31),
one free value that stays until the next reset, since reads are idempotent (20_memory.md R70; log 3). -/
def State.visibleRecord (s : State) : Record := if s.recValid then s.record else unspecifiedRecord s.resets

/-! ### Single registers -/

/-- x[CRC] <- v. -/
def State.setCrc (s : State) (v : Byte) : State := { s with crc := v }

/-- x[FSTATE] <- f. -/
def State.setFrameState (s : State) (f : FrameState) : State := { s with fstate := f }

/-- The self-test's two results (40_crc.md R125). -/
def State.setSelfTest (s : State) (pass : Bool) : State := { s with stDone := true, stPass := pass }

/-- The 32 bytes of an answer taken into FB: FB[i] <- S[i] (42_framer.md R185). -/
def State.setFrame (s : State) (bytes : List Byte) : State := { s with fb := s.fb.store 0 bytes }

/-- WriteRecordRegs(rec) (41_decoder.md R157). -/
def State.setRecord (s : State) (r : Record) : State := { s with record := r, recValid := true }

/-- CNT_TOTAL + 1, modulo 2^32 (42_framer.md R187, R200). -/
def State.countTotal (s : State) : State := { s with cntTotal := s.cntTotal + 1 }

/-- CNT_GOOD + 1, modulo 2^32 (42_framer.md R188, R200). -/
def State.countGood (s : State) : State := { s with cntGood := s.cntGood + 1 }

/-- CNT_BADCRC + 1, modulo 2^32 (42_framer.md R187, R200). -/
def State.countBadCrc (s : State) : State := { s with cntBadCrc := s.cntBadCrc + 1 }

/-- CNT_SHORT + 1, modulo 2^32 (42_framer.md R186, R200). -/
def State.countShort (s : State) : State := { s with cntShort := s.cntShort + 1 }

/-- What every commit does: FSTATE, LAST_CODE and LAST_SHORT_LEN written and the outcome emitted, at once
(42_framer.md R189). -/
def State.commit (s : State) (f : FrameState) (o : FrameOutcome) : State :=
  { s with fstate := f, lastCode := o.code, lastShortLen := o.shortLen, out := s.out ++ [o] }

/-- The register port's answer. -/
def State.respond (s : State) (r : BusResponse) : State := { s with response := r }

/-- The bytes left in the source. -/
def State.setStream (s : State) (bytes : List Byte) : State := { s with stream := bytes }

/-- The moves still to come. -/
def State.setEvents (s : State) (es : List Event) : State := { s with events := es }

/-! ### Host-interface errors: how they are raised and how they are cleared -/

/-- `raise E` (00_scope.md R13; 60_exceptions.md R251 to R254): the one shared way to take a host-interface error. No
trap entry exists (60_exceptions.md R258): E's sticky bit is set, or the bus answers with the offset. -/
def State.raise (s : State) : HostError → State
  | .illegalCommand => { s with illcmd := true }
  | .commandOverrun => { s with ovr := true }
  | .busError off => { s with response := .error off }

/-- The way back (60_exceptions.md R259): a write of `v` to STATUS clears ILLCMD if v[7] = 1 and OVR if v[8] = 1, and
ignores every other bit (10_state.md R36). -/
def State.clearErrors (s : State) (v : Word) : State :=
  { s with illcmd := s.illcmd && !v.getLsbD 7, ovr := s.ovr && !v.getLsbD 8 }

/-- The BUSY check every command passes first (43_control.md R230; 60_exceptions.md R253). -/
def State.unlessBusy (s : State) (effect : State → State) : State :=
  if s.busy then s.raise .commandOverrun else effect s

/-! ### Reset -/

/-- ResetCore() (70_reset_and_hazards.md R280; 10_state.md R43): one indivisible step. The record registers and FB
become unspecified, an outstanding request is abandoned, OUT and the source are left alone (70_reset_and_hazards.md
R283), and the self-test runs. -/
def State.resetCore (s : State) : State :=
  { s.forgetFrame with
    crc := Config.crcInit
    fstate := .awaitingFrame
    cntTotal := 0
    cntGood := 0
    cntBadCrc := 0
    cntShort := 0
    lastCode := .none
    lastShortLen := 0
    record := unspecifiedRecord (s.resets + 1)
    recValid := false
    illcmd := false
    ovr := false
    abandoned := if s.requestOutstanding then s.abandoned + 1 else s.abandoned
    resets := s.resets + 1
    stPass := selfTestPasses
    stDone := true }

/-! ### The register map (10_state.md R35) -/

/-- The 18 registers in the order of their offsets 0x00, 0x04, …, 0x44. -/
def Reg.all : List Reg :=
  [.cmd, .status, .crcr, .outcome, .cntTotal, .cntGood, .cntBadCrc, .cntShort, .recTsLo, .recTsHi, .recLat, .recLon,
   .recAlt, .recTemp, .recSensor, .recBatt, .recStatus, .recRsvd]

/-- A register's byte offset (10_state.md R35). -/
def Reg.offset : Reg → Nat
  | .cmd => 0x00
  | .status => 0x04
  | .crcr => 0x08
  | .outcome => 0x0C
  | .cntTotal => 0x10
  | .cntGood => 0x14
  | .cntBadCrc => 0x18
  | .cntShort => 0x1C
  | .recTsLo => 0x20
  | .recTsHi => 0x24
  | .recLat => 0x28
  | .recLon => 0x2C
  | .recAlt => 0x30
  | .recTemp => 0x34
  | .recSensor => 0x38
  | .recBatt => 0x3C
  | .recStatus => 0x40
  | .recRsvd => 0x44

/-- The register an access reaches; none is BusError: "if off mod 4 != 0 or access width != 32 or off >= 0x48"
(20_memory.md R64). -/
def accessedReg (width off : Nat) : Option Reg :=
  if off % 4 ≠ 0 ∨ width ≠ Config.regWidth ∨ Config.regSpace ≤ off then none else Reg.all[off / 4]?

/-- What a register reads as (10_state.md R36 to R42). Reading changes nothing (20_memory.md R70). -/
def State.readRegister (s : State) : Reg → Word
  | .cmd => 0
  | .status => s.statusWord
  | .crcr => s.crc.setWidth 32
  | .outcome => s.outcomeWord
  | .cntTotal => s.cntTotal
  | .cntGood => s.cntGood
  | .cntBadCrc => s.cntBadCrc
  | .cntShort => s.cntShort
  | .recTsLo => s.visibleRecord.timestampMs.extractLsb' 0 32
  | .recTsHi => s.visibleRecord.timestampMs.extractLsb' 32 32
  | .recLat => s.visibleRecord.latitude
  | .recLon => s.visibleRecord.longitude
  | .recAlt => s.visibleRecord.altitudeM
  | .recTemp => s.visibleRecord.temperatureC
  | .recSensor => s.visibleRecord.sensorId.setWidth 32
  | .recBatt => s.visibleRecord.batteryPct.setWidth 32
  | .recStatus => s.visibleRecord.statusFlags.setWidth 32
  | .recRsvd => s.visibleRecord.reserved.setWidth 32

end Sys2Proof.Machine
end

