-- ==== Sys2Proof/Machine/Control.lean ====
section
/-! DEFINITION. The control commands (43_control.md section 2). -/

namespace Sys2Proof.Machine

/-- NOP (43_control.md R231): nothing, but "A NOP written while busy is dropped and still sets OVR". -/
def execNop (s : State) : Host.Outcome State Fault Refusal := .next (s.unlessBusy fun s => s)

/-- SRESET (43_control.md R232): ResetCore(), dropped while busy. -/
def execSreset (s : State) : Host.Outcome State Fault Refusal := .next (s.unlessBusy fun s => s.resetCore)

end Sys2Proof.Machine
end

