-- ==== Sys2Proof/Machine/Crc.lean ====
section
/-! DEFINITION. The commands of the checksum unit (40_crc.md section 2). Each is dropped with OVR while BUSY = 1
(60_exceptions.md R253) and allowed in every other framer state, terminal ones included. -/

namespace Sys2Proof.Machine

/-- CRC.INIT (40_crc.md R123). -/
def execCrcInit (s : State) : Host.Outcome State Fault Refusal :=
  .next (s.unlessBusy fun s => s.setCrc Config.crcInit)

/-- CRC.UPD #b (40_crc.md R124). -/
def execCrcUpd (imm8 : Byte) (s : State) : Host.Outcome State Fault Refusal :=
  .next (s.unlessBusy fun s => s.setCrc (crcStep s.crc imm8))

/-- SELFTEST (40_crc.md R125): with a private accumulator, CRC is not touched. -/
def execSelftest (s : State) : Host.Outcome State Fault Refusal :=
  .next (s.unlessBusy fun s => s.setSelfTest selfTestPasses)

end Sys2Proof.Machine
end

