-- ==== Sys2Proof/Machine/Framer.lean ====
section
/-! DEFINITION. FRAME.STEP in its three internal steps (42_framer.md): the issue, which is all that the command's own
write does (R181), the source's answer (R184, R185, R186, R190), and the validate step (R187, R188). -/

namespace Sys2Proof.Machine

/-- FRAME.STEP's own write (42_framer.md R180 to R182): refused in a terminal state, otherwise `x[FSTATE] <-
READ_PENDING` and `SrcRead(32)`, which is outstanding from then on (10_state.md R34). -/
def execFrameStep (s : State) : Host.Outcome State Fault Refusal :=
  .next (s.unlessBusy fun s =>
    if s.fstate.terminal then s.raise .illegalCommand else s.setFrameState .readPending)

/-- Answer `Bytes(S)`, len(S) = 0 (42_framer.md R184). -/
def State.endStream (s : State) : State := s.forgetFrame.commit .endOfStream .endOfStream

/-- Answer `Bytes(S)`, 1 ≤ len(S) = n ≤ 31 (42_framer.md R186): the bytes are discarded. -/
def State.endShort (s : State) (n : Nat) : State := s.forgetFrame.countShort.commit .shortFrame (.shortFrame n)

/-- Answer `Bytes(S)`, len(S) = 32 (42_framer.md R185): no commit yet. -/
def State.takeFrame (s : State) (bytes : List Byte) : State :=
  (s.setFrame bytes).setFrameState .haveCompleteFrame

/-- Answer `Fail` (42_framer.md R190). -/
def State.endFailed (s : State) : State := s.forgetFrame.commit .sourceError .sourceUnavailable

/-- Answer `Bytes(S)`, by the length of S (42_framer.md R180). -/
def State.takeBytes (s : State) (bytes : List Byte) : State :=
  if bytes.length = 0 then s.endStream
  else if bytes.length = Config.frameLen then s.takeFrame bytes
  else s.endShort bytes.length

/-- The source answers (42_framer.md R183): its answer takes the next bytes of the stream, as many as it says or as
there are (20_memory.md R66); those that come with a failure are discarded (42_framer.md R190). -/
def sourceAnswers (a : SourceAnswer) (s : State) : Host.Outcome State Fault Refusal :=
  if s.requestOutstanding then
    match a with
    | .deliver n => .next ((s.setStream (s.stream.drop n)).takeBytes (s.stream.take n))
    | .fail n => .next ((s.setStream (s.stream.drop n)).endFailed)
  else .fault .unrequestedAnswer

/-- A late answer to an abandoned request "is discarded and has no effect" (70_reset_and_hazards.md R281). -/
def lateAnswers (s : State) : Host.Outcome State Fault Refusal :=
  match s.abandoned with
  | 0 => .fault .unrequestedAnswer
  | n + 1 => .next { s with abandoned := n }

/-- The validate step's mismatch branch (42_framer.md R187). -/
def State.commitMismatch (s : State) : State := s.countTotal.countBadCrc.commit .awaitingFrame .checksumMismatch

/-- The validate step's match branch (42_framer.md R188). -/
def State.commitDecoded (s : State) (r : Record) : State :=
  ((s.countTotal.setRecord r).countGood).commit .awaitingFrame (.decoded r)

/-- The validate step (42_framer.md R187, R188): CRC is neither read nor written. -/
def State.validate (s : State) : State :=
  if frameValid s.frame then s.commitDecoded (decodePayload (framePayload s.frame)) else s.commitMismatch

/-- The core's own move: the validate step, "enabled whenever FSTATE = HAVE_COMPLETE_FRAME" (42_framer.md R187). -/
def coreMoves (s : State) : Host.Outcome State Fault Refusal :=
  if s.fstate = .haveCompleteFrame then .next s.validate else .refused .coreNotEnabled

end Sys2Proof.Machine
end

