-- ==== Sys2Proof/Machine/Dispatch.lean ====
section
/-! DEFINITION. The meaning of each command (43_control.md R230): one arm per constructor of Instr. -/

namespace Sys2Proof.Machine

def exec (i : Instr) (s : State) : Host.Outcome State Fault Refusal :=
  match i with
  | .nop => Sys2Proof.Machine.execNop s
  | .crcInit => Sys2Proof.Machine.execCrcInit s
  | .crcUpd imm8 => Sys2Proof.Machine.execCrcUpd imm8 s
  | .selftest => Sys2Proof.Machine.execSelftest s
  | .frameStep => Sys2Proof.Machine.execFrameStep s
  | .sreset => Sys2Proof.Machine.execSreset s

end Sys2Proof.Machine
end

