-- ==== Sys2Proof/WellFormed.lean ====
section
/-! DEFINITION. Which events the contract of the byte source allows (42_framer.md R183; 70_reset_and_hazards.md
R281). A command needs no check of its own: CRC.UPD's operand has the type of a byte, "Every byte value is legal"
(40_crc.md R124), and the other commands have no operand. -/

namespace Sys2Proof.Machine

/-- How many bytes of the stream an answer takes. -/
def SourceAnswer.count : SourceAnswer → Nat
  | .deliver n => n
  | .fail n => n

/-- "never supplies more than 32 bytes" (42_framer.md R183). -/
def SourceAnswer.wellFormed (a : SourceAnswer) : Bool := a.count ≤ Config.frameLen

/-- An event the source's contract allows: an answer of at most 32 bytes, and an abandoned request that consumed "0 to
32" bytes (70_reset_and_hazards.md R281). Every host access is an event: the bus answers the bad ones. -/
def Event.wellFormed : Event → Bool
  | .host _ => true
  | .source a => a.wellFormed
  | .lateAnswer => true
  | .core => true
  | .resetInput _ consumed => consumed ≤ Config.frameLen
  | .attach _ => true

end Sys2Proof.Machine
end

