-- ==== Sys2Proof/Machine/Port.lean ====
section
/-! DEFINITION. The host register port (20_memory.md R64), the dispatch of a command word (43_control.md R230), the
reset input (70_reset_and_hazards.md R281), and what each event does. -/

namespace Sys2Proof.Machine

/-- A step's outcome with the port's answer added to the next state. -/
def answered (r : BusResponse) : Host.Outcome State Fault Refusal → Host.Outcome State Fault Refusal
  | .next s => .next (s.respond r)
  | .fault f => .fault f
  | .refused f => .refused f

/-- Dispatch(v) (43_control.md R230): CommandOverrun comes before IllegalCommand by opcode (60_exceptions.md R256), and
each command's meaning makes the BUSY check and, for FRAME.STEP, the state check itself. -/
def dispatchWord (v : Word) (s : State) : Host.Outcome State Fault Refusal :=
  match decode v with
  | .ok i => exec i s
  | .error _ => .next (s.unlessBusy fun s => s.raise .illegalCommand)

/-- RegRead(off) (20_memory.md R64). -/
def regRead (width off : Nat) (s : State) : Host.Outcome State Fault Refusal :=
  match accessedReg width off with
  | none => .next (s.raise (.busError off))
  | some r => .next (s.respond (.data (s.readRegister r)))

/-- What a write of `v` does at a register (20_memory.md R64): a command at CMD, W1C at STATUS, "no effect" elsewhere. -/
def writeRegister (r : Reg) (v : Word) (s : State) : Host.Outcome State Fault Refusal :=
  match r with
  | .cmd => dispatchWord v s
  | .status => .next (s.clearErrors v)
  | _ => .next s

/-- RegWrite(off, v) (20_memory.md R64). -/
def regWrite (width off : Nat) (v : Word) (s : State) : Host.Outcome State Fault Refusal :=
  match accessedReg width off with
  | none => .next (s.raise (.busError off))
  | some r => answered .written (writeRegister r v s)

/-- One access of the host. -/
def hostAccess (a : Access) (s : State) : Host.Outcome State Fault Refusal :=
  match a with
  | .read width off => regRead width off s
  | .write width off v => regWrite width off v s

/-- The reset input (70_reset_and_hazards.md R281): ResetCore(). If it abandons a request, the source has consumed
`consumed` bytes for it (93_implementation_defined.md U3). An access in progress is overridden: it is not performed
(60_exceptions.md R256), and the port holds no answer (log 11, log 15). -/
def resetInput (consumed : Nat) (s : State) : State :=
  ((s.setStream (if s.requestOutstanding then s.stream.drop consumed else s.stream)).resetCore).respond .idle

/-- What the next move of an agent does. -/
def perform (e : Event) (s : State) : Host.Outcome State Fault Refusal :=
  if e.wellFormed then
    match e with
    | .host a => hostAccess a s
    | .source a => sourceAnswers a s
    | .lateAnswer => lateAnswers s
    | .core => coreMoves s
    | .resetInput _ consumed => .next (resetInput consumed s)
    | .attach bytes => .next (s.setStream bytes)
  else .fault .oversizedAnswer

/-- No agent outside moves: the core validates if it can, and otherwise no step is taken (93_implementation_defined.md
U15, "stuck"; 42_framer.md R199). -/
def noMove (s : State) : Host.Outcome State Fault Refusal :=
  if s.fstate = .haveCompleteFrame then .next s.validate
  else if s.requestOutstanding then .refused .sourceSilent
  else .refused .noEvent

/-- The host's write of the command word `v` to CMD (30_encoding.md R90). -/
def commandWrite (v : Word) : Event := .host (.write Config.regWidth Reg.cmd.offset v)

end Sys2Proof.Machine
end

