-- ==== Sys2Proof/Machine/Step.lean ====
section
/-! DEFINITION. One step of the machine: the next move of one agent (00_scope.md R8). -/

namespace Sys2Proof.Machine

/-- The next event is taken from the list and performed. -/
def step (s : State) : Host.Outcome State Fault Refusal :=
  match s.events with
  | [] => noMove s
  | e :: rest => perform e (s.setEvents rest)

/-- The command word `w` of `nbits` bits as the next event, so that the next step runs it: the host's write of it to CMD
(the core fetches nothing, 10_state.md R21; log 2). -/
def State.withFetchWord (s : State) (nbits w : Nat) : State :=
  { s with events := commandWrite (BitVec.ofNat 32 (w % 2 ^ nbits)) :: s.events }

end Sys2Proof.Machine
end

