-- ==== Sys2Proof/Safety.lean ====
section
/-! DEFINITION. What a safe state is: the state invariants of 10_state.md R44, with the canonical form of the frame
buffer and what the outcome registers and the record registers say about OUT (10_state.md R29, R30). And the terms
that statements about several steps are made in. -/

namespace Sys2Proof.Machine

/-- The most recent `Decoded(record)` of an outcome stream (10_state.md R30). -/
def lastDecoded : List FrameOutcome → Option Record
  | [] => none
  | o :: rest =>
    match lastDecoded rest with
    | some r => some r
    | none =>
      match o with
      | .decoded r => some r
      | _ => none

/-- The invariant of the machine. -/
structure State.Inv (s : State) : Prop where
  /-- FB is in its canonical form. -/
  frameWf : s.fb.wf = true
  /-- CNT_TOTAL = CNT_GOOD + CNT_BADCRC modulo 2^32 (R44a). -/
  tally : s.cntTotal = s.cntGood + s.cntBadCrc
  /-- CNT_SHORT is 1 after a short tail and 0 otherwise, so at most 1 (R44b). -/
  shortCount : s.cntShort = if s.lastCode = .shortFrame then 1 else 0
  /-- LAST_SHORT_LEN is nonzero iff LAST_CODE = 3 (R44c). -/
  shortLen : s.lastShortLen ≠ 0 ↔ s.lastCode = .shortFrame
  /-- FSTATE = SHORT_FRAME iff LAST_CODE = 3 (R44f). -/
  shortState : s.fstate = .shortFrame ↔ s.lastCode = .shortFrame
  /-- FSTATE = END_OF_STREAM iff LAST_CODE = 4 (R44f). -/
  endState : s.fstate = .endOfStream ↔ s.lastCode = .endOfStream
  /-- FSTATE = SOURCE_ERROR iff LAST_CODE = 5 (R44f). -/
  errorState : s.fstate = .sourceError ↔ s.lastCode = .sourceUnavailable
  /-- CNT_GOOD ≠ 0 implies REC_VALID = 1 (R44e). -/
  goodValid : s.cntGood ≠ 0 → s.recValid = true
  /-- LAST_CODE = 1 implies REC_VALID = 1 (R44e). -/
  decodedValid : s.lastCode = .decoded → s.recValid = true
  /-- The self-test has run and passed (10_state.md R26; 40_crc.md R127). -/
  selfTested : s.stDone = true ∧ s.stPass = true
  /-- LAST_CODE and LAST_SHORT_LEN record the most recent outcome (10_state.md R29). -/
  lastOutcome : s.lastCode ≠ .none →
    ∃ o, s.out.getLast? = some o ∧ s.lastCode = o.code ∧ s.lastShortLen = o.shortLen
  /-- The record registers hold the most recent `Decoded(record)` outcome (10_state.md R30). -/
  latestRecord : s.recValid = true → lastDecoded s.out = some s.record

/-- `n` steps, stopping at the first that answers no next state. -/
def runSteps : Nat → State → Host.Outcome State Fault Refusal
  | 0, s => .next s
  | n + 1, s =>
    match step s with
    | .next t => runSteps n t
    | .fault f => .fault f
    | .refused r => .refused r

/-- The next step is a reset: the reset input, or SRESET written to CMD (70_reset_and_hazards.md R280). -/
def State.resetNext (s : State) : Prop :=
  ∃ rest, (∃ a n, s.events = .resetInput a n :: rest) ∨ (∃ v, s.events = commandWrite v :: rest ∧ decode v = .ok .sreset)

/-- The bits of a command word that its row of spec/opcode_table.json fixes or names a field: OP, and IMM8 of CRC.UPD. -/
def tableMask : Instr → Word
  | .nop => 0x000000FF
  | .crcInit => 0x000000FF
  | .crcUpd _ => 0x0000FFFF
  | .selftest => 0x000000FF
  | .frameStep => 0x000000FF
  | .sreset => 0x000000FF

/-- One FRAME.STEP over the reference source, which answers each request with the next min(32, remaining) bytes
(42_framer.md R183), as long as complete frames are left. -/
def frameNext : List Event := [commandWrite (encode .frameStep), .source (.deliver 32), .core]

/-- FRAME.RUN over the reference source for a stream of `q` complete frames and a rest below 32 bytes
(30_encoding.md R105; 42_framer.md R193). The host's polling reads of STATUS are left out: reads have no side effects
(20_memory.md R70). -/
def frameRun : Nat → List Event
  | 0 => [commandWrite (encode .frameStep), .source (.deliver 32)]
  | q + 1 => frameNext ++ frameRun q

end Sys2Proof.Machine
end

