-- ==== Sys2Proof/Certificates/Slice0/Obligations.lean ====
section
/-! DEFINITION. The statements for the provers. `s` is always any state that meets the hypotheses, whether a run reaches
it or not. A statement that says `fb` or `frameDraws` of the next state only exists leaves FB's unspecified contents
open (10_state.md R27). That `response` keeps the port's last answer is the model's form of it (log 11). -/

open Sys2Proof Sys2Proof.Machine

/-! ### Encoding -/

/-- A word decodes to a command exactly when it agrees with the command's assembled word on the bits its table row names,
and to none exactly when OP is 0x06 to 0xFF (30_encoding.md R91, R93, R94). -/
def Obligations.DecodeMatchesTableRows : Prop :=
  (∀ (v : Word) (i : Instr), decode v = .ok i ↔ v &&& tableMask i = encode i) ∧
  (∀ v : Word, (∀ i, decode v ≠ .ok i) ↔ 6 ≤ v.toNat % 256)

/-- The encoding examples of 30_encoding.md R106. -/
def Obligations.DecodeReadsSpecExamples : Prop :=
  decode 0x00003102 = .ok (.crcUpd 0x31) ∧ decode 0x00000002 = .ok (.crcUpd 0x00) ∧
  decode 0x0000FF02 = .ok (.crcUpd 0xFF) ∧ decode 0x00000004 = .ok .frameStep ∧ decode 0xABCD0004 = .ok .frameStep ∧
  decode 0x00000006 = .error (.illegalOpcode 0x06) ∧ decode 0x00003101 = .ok .crcInit ∧
  encode (.crcUpd 0x31) = 0x00003102 ∧ encode (.crcUpd 0x00) = 0x00000002 ∧ encode (.crcUpd 0xFF) = 0x0000FF02 ∧
  encode .frameStep = 0x00000004

/-- Words that differ only in ignored bits have identical effects in every state (30_encoding.md R93). -/
def Obligations.IgnoredBitsHaveNoEffect : Prop :=
  ∀ (v w : Word) (s : State),
    (v.toNat % 65536 = w.toNat % 65536 ∨ (v.toNat % 256 = w.toNat % 256 ∧ v.toNat % 256 ≠ 2)) →
    dispatchWord v s = dispatchWord w s ∧ ∃ t, dispatchWord v s = .next t

/-- A write of a word to CMD that decodes to `i` runs `i`; the step adds only that the event is gone and that the port
answers the write. The host's form `withFetchWord` does the same. -/
def Obligations.StepRunsDecodedCommand : Prop :=
  (∀ (s : State) (rest : List Event) (v : Word) (i : Instr),
    s.events = commandWrite v :: rest → decode v = .ok i →
    ∃ t, exec i { s with events := rest } = .next t ∧ step s = .next { t with response := .written }) ∧
  (∀ (s : State) (w : Nat) (i : Instr), decode (BitVec.ofNat 32 w) = .ok i →
    ∃ t, exec i s = .next t ∧ step (s.withFetchWord 32 w) = .next { t with response := .written })

/-! ### Commands: encoding, effect and frame, and what happens while busy -/

/-- NOP (43_control.md R231). -/
def Obligations.NopChangesNothing : Prop :=
  (∀ v : Word, v.toNat % 256 = 0 → decode v = .ok .nop) ∧
  (∀ s : State, s.busy = false → exec .nop s = .next s) ∧
  (∀ s : State, s.busy = true → exec .nop s = .next { s with ovr := true })

/-- CRC.INIT (40_crc.md R123): everything but CRC is unchanged. -/
def Obligations.CrcInitClearsAccumulator : Prop :=
  (∀ v : Word, v.toNat % 256 = 1 → decode v = .ok .crcInit) ∧
  (∀ s : State, s.busy = false → exec .crcInit s = .next { s with crc := 0x00 }) ∧
  (∀ s : State, s.busy = true → exec .crcInit s = .next { s with ovr := true })

/-- CRC.UPD (40_crc.md R124): everything but CRC is unchanged. -/
def Obligations.CrcUpdFoldsOneByte : Prop :=
  (∀ v : Word, v.toNat % 256 = 2 → decode v = .ok (.crcUpd (BitVec.ofNat 8 (v.toNat / 256)))) ∧
  (∀ (s : State) (b : Byte), s.busy = false → exec (.crcUpd b) s = .next { s with crc := crcStep s.crc b }) ∧
  (∀ (s : State) (b : Byte), s.busy = true → exec (.crcUpd b) s = .next { s with ovr := true }) ∧
  (∀ r : Byte, crcStep r r = 0x00) ∧ crcStep 0x00 0x31 = 0x97

/-- SELFTEST (40_crc.md R125, R127): CRC, FSTATE, the tally and the record are unchanged, the test passes, and
FRAME.STEP is accepted whatever ST_PASS is. -/
def Obligations.SelftestSetsDoneAndPass : Prop :=
  compute [0x31, 0x32, 0x33, 0x34, 0x35, 0x36, 0x37, 0x38, 0x39] = 0xF4 ∧
  (∀ v : Word, v.toNat % 256 = 3 → decode v = .ok .selftest) ∧
  (∀ s : State, s.busy = false → exec .selftest s = .next { s with stDone := true, stPass := true }) ∧
  (∀ s : State, s.busy = true → exec .selftest s = .next { s with ovr := true }) ∧
  (∀ s : State, s.resetCore.stDone = true ∧ s.resetCore.stPass = true) ∧
  (∀ (s : State) (pass : Bool), s.fstate = .awaitingFrame →
    exec .frameStep { s with stPass := pass } = .next { s with stPass := pass, fstate := .readPending })

/-- FRAME.STEP's issue (42_framer.md R181): only FSTATE changes. -/
def Obligations.FrameStepIssuesRequest : Prop :=
  (∀ v : Word, v.toNat % 256 = 4 → decode v = .ok .frameStep) ∧
  (∀ s : State, s.fstate = .awaitingFrame →
    exec .frameStep s = .next { s with fstate := .readPending } ∧
    s.requestOutstanding = false ∧ ({ s with fstate := .readPending } : State).requestOutstanding = true)

/-- FRAME.STEP in a terminal state (42_framer.md R182; 60_exceptions.md R252): ILLCMD, and nothing else. -/
def Obligations.FrameStepRefusedWhenTerminal : Prop :=
  ∀ s : State, s.fstate = .shortFrame ∨ s.fstate = .endOfStream ∨ s.fstate = .sourceError →
    exec .frameStep s = .next { s with illcmd := true }

/-- SRESET (43_control.md R232) by ResetCore (70_reset_and_hazards.md R280): every specified reset value; OUT, the source
and the events are left alone. No other command leaves a terminal state. -/
def Obligations.SresetRestoresResetValues : Prop :=
  (∀ v : Word, v.toNat % 256 = 5 → decode v = .ok .sreset) ∧
  (∀ s : State, s.busy = true → exec .sreset s = .next { s with ovr := true }) ∧
  (∀ s : State, s.busy = false → ∃ t, exec .sreset s = .next t ∧
    t.crc = 0x00 ∧ t.fstate = .awaitingFrame ∧ t.busy = false ∧ t.stDone = true ∧ t.stPass = true ∧
    t.cntTotal = 0 ∧ t.cntGood = 0 ∧ t.cntBadCrc = 0 ∧ t.cntShort = 0 ∧ t.lastCode = .none ∧ t.lastShortLen = 0 ∧
    t.recValid = false ∧ t.illcmd = false ∧ t.ovr = false ∧ t.out = s.out ∧
    t.readRegister .status = 0x00000030 ∧ t.readRegister .crcr = 0 ∧ t.readRegister .outcome = 0 ∧
    t.stream = s.stream ∧ t.abandoned = s.abandoned ∧ t.events = s.events ∧ t.response = s.response) ∧
  (∀ (i : Instr) (s t : State), i ≠ .sreset → s.fstate.terminal = true → exec i s = .next t → t.fstate = s.fstate)

/-- While BUSY = 1 every write to CMD is dropped and sets OVR, whatever its opcode (60_exceptions.md R253). -/
def Obligations.BusyDropsEveryCommand : Prop :=
  ∀ (s : State) (rest : List Event) (v : Word),
    s.fstate = .readPending ∨ s.fstate = .haveCompleteFrame → s.events = commandWrite v :: rest →
    step s = .next { s with events := rest, ovr := true, response := .written }

/-- An illegal opcode, not while busy, sets ILLCMD and changes nothing else (60_exceptions.md R251). -/
def Obligations.IllegalOpcodeSetsIllcmd : Prop :=
  ∀ (s : State) (rest : List Event) (v : Word),
    s.busy = false → 6 ≤ v.toNat % 256 → s.events = commandWrite v :: rest →
    step s = .next { s with events := rest, illcmd := true, response := .written }

/-! ### The checksum -/

/-- Compute is linear and has a zero residue (40_crc.md R129). -/
def Obligations.ComputeLinearZeroResidue : Prop :=
  (∀ a b : List Byte, a.length = b.length →
    compute (List.zipWith (fun x y => x ^^^ y) a b) = compute a ^^^ compute b) ∧
  (∀ b : List Byte, compute (b ++ [compute b]) = 0x00) ∧
  (∀ f : List Byte, f.length = 32 → frameValid f = true → compute f = 0x00)

/-- Leading zero bytes do not change the checksum, trailing ones can (40_crc.md R131). -/
def Obligations.LeadingZerosDoNotCount : Prop :=
  (∀ (k : Nat) (b : List Byte), compute (List.replicate k 0x00 ++ b) = compute b) ∧
  crcStep 0x00 0x00 = 0x00 ∧ frameValid (List.replicate 32 0x00) = true ∧
  compute [0x00, 0x01, 0x02, 0x03] = 0x48 ∧ compute ([0x00, 0x01, 0x02, 0x03] ++ List.replicate 27 0x00) = 0x5A

/-- Every corruption of a single byte of a byte sequence changes its checksum, and of a valid frame, its checksum byte
included, makes it invalid (40_crc.md R130; 42_framer.md R194). -/
def Obligations.SingleByteCorruptionDetected : Prop :=
  (∀ (before after : List Byte) (x y : Byte), x ≠ y →
    compute (before ++ x :: after) ≠ compute (before ++ y :: after)) ∧
  (∀ (before after : List Byte) (x y : Byte), x ≠ y → (before ++ x :: after).length = 32 →
    frameValid (before ++ x :: after) = true → frameOutcome (before ++ y :: after) = .checksumMismatch)

/-- CRC.INIT and then CRC.UPD of each byte of a sequence, as steps of the machine, leave Compute of the sequence in CRC and
change nothing else (40_crc.md R128). -/
def Obligations.AccumulatorTracksCompute : Prop :=
  ∀ (s : State) (bytes : List Byte) (rest : List Event), s.busy = false →
    s.events = commandWrite (encode .crcInit) :: (bytes.map fun b => commandWrite (encode (.crcUpd b))) ++ rest →
    runSteps (bytes.length + 1) s = .next { s with events := rest, crc := compute bytes, response := .written }

/-! ### The decoder -/

/-- The nine fields of a payload (41_decoder.md R150, R153). -/
def Obligations.DecodedFieldsAreLittleEndian : Prop :=
  ∀ p : List Byte, p.length = 31 →
    let at_ (off n : Nat) : Nat := ∑ i ∈ Finset.range n, (p.getD (off + i) 0).toNat * 2 ^ (8 * i)
    (decodePayload p).timestampMs.toNat = at_ 0 8 ∧ (decodePayload p).latitude.toNat = at_ 8 4 ∧
    (decodePayload p).longitude.toNat = at_ 12 4 ∧ (decodePayload p).altitudeM.toNat = at_ 16 4 ∧
    (decodePayload p).temperatureC.toNat = at_ 20 4 ∧
    (decodePayload p).sensorId.toNat = (p.getD 24 0).toNat + 256 * (p.getD 25 0).toNat ∧
    (decodePayload p).batteryPct = p.getD 26 0 ∧ (decodePayload p).statusFlags = p.getD 27 0 ∧
    (decodePayload p).reserved = p.getD 28 0

/-- The round trip, in both directions (41_decoder.md R171). -/
def Obligations.RecordRoundTrip : Prop :=
  (∀ (r : Record) (u29 u30 : Byte),
    decodePayload (encodePayload r u29 u30) = r ∧ (encodePayload r u29 u30).length = 31) ∧
  (∀ p : List Byte, p.length = 31 → encodePayload (decodePayload p) (p.getD 29 0) (p.getD 30 0) = p)

/-- The record does not depend on bytes 29 and 30 (41_decoder.md R152). -/
def Obligations.DecodeIgnoresUnusedBytes : Prop :=
  ∀ p q : List Byte, p.length = 31 → q.length = 31 → (∀ i, i ≤ 28 → p.getD i 0 = q.getD i 0) →
    decodePayload p = decodePayload q

/-- Bytes 29 and 30 take part in validation but not in decoding (42_framer.md R197). -/
def Obligations.UnusedBytesAreChecksummed : Prop :=
  (∀ (f : List Byte) (x : Byte), f.length = 32 → frameValid f = true →
    (x ≠ f.getD 29 0 → frameOutcome (f.set 29 x) = .checksumMismatch) ∧
    (x ≠ f.getD 30 0 → frameOutcome (f.set 30 x) = .checksumMismatch)) ∧
  (∀ f g : List Byte, f.length = 32 → g.length = 32 → frameValid f = true → frameValid g = true →
    (∀ i, i ≤ 28 → f.getD i 0 = g.getD i 0) → frameOutcome f = frameOutcome g)

/-- A frame built by the spec's encoder is 32 bytes and gives `Decoded` of its record (41_decoder.md R170, R171;
30_encoding.md R96). -/
def Obligations.EncodedFrameDecodes : Prop :=
  ∀ (r : Record) (u29 u30 : Byte),
    (wireFrame r u29 u30).length = 32 ∧ frameOutcome (wireFrame r u29 u30) = .decoded r

/-- The all-zero frame is valid and decodes to the all-zero record; the all-0xFF frame is not valid (42_framer.md R198). -/
def Obligations.CornerFrames : Prop :=
  frameOutcome (List.replicate 32 0x00) = .decoded ⟨0, 0, 0, 0, 0, 0, 0, 0, 0⟩ ∧
  systemOk 0x00 = false ∧ gpsLock 0x00 = false ∧ payloadActive 0x00 = false ∧
  compute (List.replicate 31 0xFF) = 0xFC ∧ frameOutcome (List.replicate 32 0xFF) = .checksumMismatch

/-- The status predicates each read one bit of the byte, here as the host reads it (41_decoder.md R160). -/
def Obligations.StatusPredicatesReadOneBit : Prop :=
  (∀ f : Byte, (systemOk f = true ↔ f.toNat % 2 = 1) ∧ (gpsLock f = true ↔ f.toNat / 2 % 2 = 1) ∧
    (payloadActive f = true ↔ f.toNat / 4 % 2 = 1)) ∧
  (∀ s : State, s.recValid = true → (s.readRegister .recStatus).extractLsb' 0 8 = s.record.statusFlags)

/-! ### The framer -/

/-- Answer of 0 bytes (42_framer.md R184). -/
def Obligations.EmptyAnswerEndsStream : Prop :=
  ∀ (s : State) (rest : List Event) (n : Nat),
    s.fstate = .readPending → s.events = .source (.deliver n) :: rest → n ≤ 32 → s.stream.take n = [] →
    ∃ fb draws, step s = .next { s with
      events := rest, fstate := .endOfStream, lastCode := .endOfStream, lastShortLen := 0,
      out := s.out ++ [.endOfStream], fb := fb, frameDraws := draws }

/-- Answer of 1 to 31 bytes (42_framer.md R186). -/
def Obligations.ShortAnswerEndsStream : Prop :=
  ∀ (s : State) (rest : List Event) (n len : Nat),
    s.fstate = .readPending → s.events = .source (.deliver n) :: rest → n ≤ 32 →
    (s.stream.take n).length = len → 1 ≤ len → len ≤ 31 →
    ∃ fb draws, step s = .next { s with
      events := rest, stream := s.stream.drop n, fstate := .shortFrame, cntShort := s.cntShort + 1,
      lastCode := .shortFrame, lastShortLen := BitVec.ofNat 5 len, out := s.out ++ [.shortFrame len],
      fb := fb, frameDraws := draws }

/-- Answer of 32 bytes (42_framer.md R185): FB[i] is S[i] for i = 0..31, every other address reads as before, and only
FSTATE changes besides. -/
def Obligations.FullAnswerLoadsFrame : Prop :=
  ∀ (s : State) (rest : List Event),
    s.fstate = .readPending → s.events = .source (.deliver 32) :: rest → 32 ≤ s.stream.length → s.fb.wf = true →
    ∃ fb, step s = .next { s with
        events := rest, stream := s.stream.drop 32, fstate := .haveCompleteFrame, fb := fb } ∧
      (∀ i, i < 32 → fb.read i = s.stream.getD i 0) ∧ (∀ i, 32 ≤ i → fb.read i = s.fb.read i) ∧
      fb.load 0 32 = s.stream.take 32

/-- Answer `Fail` (42_framer.md R190). That the bytes of a failed answer are gone from the source, `stream := s.stream.drop
n`, is the model's choice (log 7): the spec says only that they are discarded. -/
def Obligations.FailedAnswerAborts : Prop :=
  ∀ (s : State) (rest : List Event) (n : Nat),
    s.fstate = .readPending → s.events = .source (.fail n) :: rest → n ≤ 32 →
    ∃ fb draws, step s = .next { s with
      events := rest, stream := s.stream.drop n, fstate := .sourceError, lastCode := .sourceUnavailable,
      lastShortLen := 0, out := s.out ++ [.sourceUnavailable], fb := fb, frameDraws := draws }

/-- The validate step on a frame whose checksum does not match (42_framer.md R187), a move of the core or, without
any input, the next step: CRC, the record registers and REC_VALID are unchanged. -/
def Obligations.MismatchCommitSkipsFrame : Prop :=
  ∀ (s : State) (rest : List Event),
    s.fstate = .haveCompleteFrame → s.events = .core :: rest ∨ (s.events = [] ∧ rest = []) →
    compute (s.fb.load 0 31) ≠ s.fb.read 31 →
    step s = .next { s with
      events := rest, cntTotal := s.cntTotal + 1, cntBadCrc := s.cntBadCrc + 1, lastCode := .checksumMismatch,
      lastShortLen := 0, fstate := .awaitingFrame, out := s.out ++ [.checksumMismatch] }

/-- The validate step on a frame whose checksum matches (42_framer.md R188; 41_decoder.md R157). -/
def Obligations.MatchCommitDecodesFrame : Prop :=
  ∀ (s : State) (rest : List Event),
    s.fstate = .haveCompleteFrame → s.events = .core :: rest ∨ (s.events = [] ∧ rest = []) →
    compute (s.fb.load 0 31) = s.fb.read 31 →
    step s = .next { s with
      events := rest, cntTotal := s.cntTotal + 1, cntGood := s.cntGood + 1,
      record := decodePayload (s.fb.load 0 31), recValid := true, lastCode := .decoded, lastShortLen := 0,
      fstate := .awaitingFrame, out := s.out ++ [.decoded (decodePayload (s.fb.load 0 31))] }

/-- The core's validate step needs no input: with no event left it is the next step (42_framer.md R187). -/
def Obligations.ValidateNeedsNoInput : Prop :=
  ∀ (s : State) (rest : List Event), s.fstate = .haveCompleteFrame → s.events = .core :: rest →
    step { s with events := [] } = .next { s.validate with events := [] } ∧
    step s = .next { s.validate with events := rest }

/-- A commit emits exactly one outcome, which LAST_CODE and LAST_SHORT_LEN then record (10_state.md R29), and no other
step emits one, a reset included (42_framer.md R192). -/
def Obligations.OneOutcomePerCommit : Prop :=
  ∀ s t : State, step s = .next t →
    (s.busy = true ∧ t.busy = false ∧
      ∃ o, t.out = s.out ++ [o] ∧ t.lastCode = o.code ∧ t.lastShortLen = o.shortLen) ∨
    (t.out = s.out ∧ (¬ s.resetNext →
      (s.busy = false ∨ t.busy = true) ∧ t.lastCode = s.lastCode ∧ t.lastShortLen = s.lastShortLen))

/-- Each tally counter counts its outcomes and nothing else (10_state.md R28), until a reset. -/
def Obligations.TallyCountsOutcomes : Prop :=
  ∀ s t : State, step s = .next t → ¬ s.resetNext →
    ∃ os, t.out = s.out ++ os ∧
      t.cntGood = s.cntGood + BitVec.ofNat 32 (os.countP fun o => o.code == .decoded) ∧
      t.cntBadCrc = s.cntBadCrc + BitVec.ofNat 32 (os.countP fun o => o.code == .checksumMismatch) ∧
      t.cntShort = s.cntShort + BitVec.ofNat 32 (os.countP fun o => o.code == .shortFrame) ∧
      t.cntTotal = s.cntTotal +
        BitVec.ofNat 32 (os.countP fun o => o.code == .decoded || o.code == .checksumMismatch)

/-- A tally counter at 0xFFFF_FFFF that counts wraps to 0, and no flag records it (42_framer.md R200). -/
def Obligations.CountersWrapSilently : Prop :=
  ∀ s t : State, step s = .next t → ¬ s.resetNext →
    (s.cntTotal = 0xFFFFFFFF → t.cntTotal ≠ s.cntTotal → t.cntTotal = 0 ∧ t.illcmd = s.illcmd ∧ t.ovr = s.ovr) ∧
    (s.cntGood = 0xFFFFFFFF → t.cntGood ≠ s.cntGood → t.cntGood = 0 ∧ t.illcmd = s.illcmd ∧ t.ovr = s.ovr) ∧
    (s.cntBadCrc = 0xFFFFFFFF → t.cntBadCrc ≠ s.cntBadCrc → t.cntBadCrc = 0 ∧ t.illcmd = s.illcmd ∧ t.ovr = s.ovr) ∧
    (s.cntShort = 0xFFFFFFFF → t.cntShort ≠ s.cntShort → t.cntShort = 0 ∧ t.illcmd = s.illcmd ∧ t.ovr = s.ovr)

/-- One FRAME.STEP over a complete frame, from any state that awaits one: the outcome is a function of the frame's 32
bytes alone, and the source stands at the byte after them (42_framer.md R191, R194). -/
def Obligations.FrameOutcomeIsolated : Prop :=
  ∀ (s : State) (frame more : List Byte) (rest : List Event),
    s.fstate = .awaitingFrame → s.fb.wf = true → frame.length = 32 → s.stream = frame ++ more →
    s.events = frameNext ++ rest →
    ∃ t, runSteps 3 s = .next t ∧ t.out = s.out ++ [frameOutcome frame] ∧ t.fstate = .awaitingFrame ∧
      t.stream = more ∧ t.events = rest ∧ t.cntTotal = s.cntTotal + 1 ∧ t.fb.wf = true ∧ t.crc = s.crc

/-- The stream law (42_framer.md R193), from any state that awaits a frame: `q` outcomes of the `q` complete frames, then
one terminal outcome. -/
def Obligations.StreamLaw : Prop :=
  ∀ (s : State) (q r : Nat) (rest : List Event),
    s.fstate = .awaitingFrame → s.fb.wf = true → s.stream.length = 32 * q + r → r < 32 →
    s.events = frameRun q ++ rest →
    ∃ t, runSteps (3 * q + 2) s = .next t ∧
      t.out = s.out ++ ((List.range q).map fun k => frameOutcome ((s.stream.drop (32 * k)).take 32)) ++
        [if r = 0 then .endOfStream else .shortFrame r] ∧
      t.cntTotal = s.cntTotal + BitVec.ofNat 32 q ∧
      t.cntGood + t.cntBadCrc = s.cntGood + s.cntBadCrc + BitVec.ofNat 32 q ∧
      t.cntShort = s.cntShort + (if r = 0 then 0 else 1) ∧
      t.fstate = (if r = 0 then .endOfStream else .shortFrame) ∧
      t.lastShortLen.toNat = r ∧ t.stream = [] ∧ t.events = rest

/-- A stream of frames built by the spec's encoder gives `Decoded` of each record in order and then `EndOfStream`, and
counts them all good (42_framer.md R196). -/
def Obligations.SampleStreamRoundTrip : Prop :=
  ∀ (s : State) (sample : List (Record × Byte × Byte)) (rest : List Event),
    s.fstate = .awaitingFrame → s.fb.wf = true →
    s.stream = (sample.map fun x => wireFrame x.1 x.2.1 x.2.2).flatten →
    s.events = frameRun sample.length ++ rest →
    ∃ t, runSteps (3 * sample.length + 2) s = .next t ∧
      t.out = s.out ++ (sample.map fun x => .decoded x.1) ++ [.endOfStream] ∧
      t.cntTotal = s.cntTotal + BitVec.ofNat 32 sample.length ∧
      t.cntGood = s.cntGood + BitVec.ofNat 32 sample.length ∧ t.cntBadCrc = s.cntBadCrc ∧ t.cntShort = s.cntShort ∧
      t.fstate = .endOfStream

/-- The source is read in order: a step leaves the stream as it is, or takes at most 32 bytes from its front, and only an
answer, or a reset that abandons a request, takes any (20_memory.md R66; 70_reset_and_hazards.md R283). When the bytes of
a failed answer and of an abandoned request are gone is the model's choice (log 7, log 8). -/
def Obligations.SourceConsumedInOrder : Prop :=
  ∀ s t : State, step s = .next t → (∀ bytes rest, s.events ≠ .attach bytes :: rest) →
    t.stream = s.stream ∨ (s.fstate = .readPending ∧ ∃ n, n ≤ 32 ∧ t.stream = s.stream.drop n)

/-- A machine that waits for its source takes no step of its own and stays able to answer the host (42_framer.md R199;
93_implementation_defined.md U15). The refusal's name is the model's (log 10). -/
def Obligations.SilentSourceBlocks : Prop :=
  ∀ (s : State), s.fstate = .readPending →
    (s.events = [] → step s = .refused .sourceSilent) ∧
    (∀ rest, s.events = .host (.read 32 0x04) :: rest →
      step s = .next { s with events := rest, response := .data s.statusWord })

/-- An answer without a request, or of more than 32 bytes, breaks the source's contract (42_framer.md R183): the model
stops. The faults are the model's (log 9). -/
def Obligations.SourceContractBreachFaults : Prop :=
  (∀ (s : State) (rest : List Event) (a : SourceAnswer), s.events = .source a :: rest → s.fstate ≠ .readPending →
    a.count ≤ 32 → step s = .fault .unrequestedAnswer) ∧
  (∀ (s : State) (rest : List Event) (a : SourceAnswer), s.events = .source a :: rest → 32 < a.count →
    step s = .fault .oversizedAnswer)

/-! ### The host port -/

/-- A misaligned access, one not 32 bits wide, or one at 0x48 or above is answered by a BusError with the offset; the core
is unchanged and a write is not performed (60_exceptions.md R254). -/
def Obligations.BadAccessIsBusError : Prop :=
  ∀ (s : State) (rest : List Event) (width off : Nat) (v : Word),
    off % 4 ≠ 0 ∨ width ≠ 32 ∨ 0x48 ≤ off →
    (s.events = .host (.read width off) :: rest → step s = .next { s with events := rest, response := .error off }) ∧
    (s.events = .host (.write width off v) :: rest → step s = .next { s with events := rest, response := .error off })

/-- STATUS, bit by bit, as it reads, as a write of it acts, also while busy, and as it reads after reset
(10_state.md R36). -/
def Obligations.StatusRegisterFields : Prop :=
  (∀ s : State, (s.readRegister .status).extractLsb' 0 3 = s.fstate.code ∧
    (s.readRegister .status).getLsbD 3 = s.busy ∧ (s.readRegister .status).getLsbD 4 = s.stDone ∧
    (s.readRegister .status).getLsbD 5 = s.stPass ∧ (s.readRegister .status).getLsbD 6 = s.recValid ∧
    (s.readRegister .status).getLsbD 7 = s.illcmd ∧ (s.readRegister .status).getLsbD 8 = s.ovr ∧
    ∀ i, 9 ≤ i → (s.readRegister .status).getLsbD i = false) ∧
  (∀ (s : State) (rest : List Event) (v : Word), s.events = .host (.write 32 0x04 v) :: rest →
    step s = .next { s with
      events := rest, response := .written,
      illcmd := if v.getLsbD 7 then false else s.illcmd, ovr := if v.getLsbD 8 then false else s.ovr }) ∧
  State.reset.readRegister .status = 0x00000030

/-- OUTCOME, bit by bit; writes are ignored (10_state.md R38). -/
def Obligations.OutcomeRegisterFields : Prop :=
  (∀ s : State, (s.readRegister .outcome).extractLsb' 0 3 = s.lastCode.code ∧
    (s.readRegister .outcome).extractLsb' 3 5 = 0 ∧ (s.readRegister .outcome).extractLsb' 8 5 = s.lastShortLen ∧
    (s.readRegister .outcome).extractLsb' 13 19 = 0) ∧
  (∀ (s : State) (rest : List Event) (v : Word), s.events = .host (.write 32 0x0C v) :: rest →
    step s = .next { s with events := rest, response := .written })

/-- CRCR reads as CRC, writes to it are ignored, and only CRC.INIT, CRC.UPD, SRESET and the reset input change CRC
(10_state.md R37). -/
def Obligations.CrcHasFourWriters : Prop :=
  (∀ s : State, (s.readRegister .crcr).toNat = s.crc.toNat) ∧
  (∀ (s : State) (rest : List Event) (v : Word), s.events = .host (.write 32 0x08 v) :: rest →
    step s = .next { s with events := rest, response := .written }) ∧
  (∀ s t : State, step s = .next t → t.crc ≠ s.crc →
    s.resetNext ∨ ∃ v rest, s.events = commandWrite v :: rest ∧ (v.toNat % 256 = 1 ∨ v.toNat % 256 = 2))

/-- The counters read as themselves, CMD reads 0, and a read of CMD has no effect (10_state.md R39, R42). -/
def Obligations.CountersAndCmdRead : Prop :=
  ∀ (s : State) (rest : List Event),
    (s.events = .host (.read 32 0x00) :: rest → step s = .next { s with events := rest, response := .data 0 }) ∧
    (s.events = .host (.read 32 0x10) :: rest →
      step s = .next { s with events := rest, response := .data s.cntTotal }) ∧
    (s.events = .host (.read 32 0x14) :: rest →
      step s = .next { s with events := rest, response := .data s.cntGood }) ∧
    (s.events = .host (.read 32 0x18) :: rest →
      step s = .next { s with events := rest, response := .data s.cntBadCrc }) ∧
    (s.events = .host (.read 32 0x1C) :: rest →
      step s = .next { s with events := rest, response := .data s.cntShort })

/-- The record registers read as the record's fields while REC_VALID = 1 (10_state.md R40); the bits above a narrow field
read 0 even while REC_VALID = 0 (93_implementation_defined.md U1). -/
def Obligations.RecordRegistersRead : Prop :=
  (∀ s : State, s.recValid = true →
    (s.readRegister .recTsLo).toNat + 2 ^ 32 * (s.readRegister .recTsHi).toNat = s.record.timestampMs.toNat ∧
    s.readRegister .recLat = s.record.latitude ∧ s.readRegister .recLon = s.record.longitude ∧
    s.readRegister .recAlt = s.record.altitudeM ∧ s.readRegister .recTemp = s.record.temperatureC ∧
    (s.readRegister .recSensor).toNat = s.record.sensorId.toNat ∧
    (s.readRegister .recBatt).toNat = s.record.batteryPct.toNat ∧
    (s.readRegister .recStatus).toNat = s.record.statusFlags.toNat ∧
    (s.readRegister .recRsvd).toNat = s.record.reserved.toNat) ∧
  (∀ s : State, (s.readRegister .recSensor).toNat < 2 ^ 16 ∧ (s.readRegister .recBatt).toNat < 2 ^ 8 ∧
    (s.readRegister .recStatus).toNat < 2 ^ 8 ∧ (s.readRegister .recRsvd).toNat < 2 ^ 8)

/-- Reads have no side effects and are idempotent; writes act only at CMD and STATUS; no host access consumes source bytes
or emits an outcome, and only FRAME.STEP makes a request (20_memory.md R70). For the record registers while REC_VALID = 0
the first two clauses are the model's choice (log 3): there 10_state.md R43 names a fault, and the model's read completes
and repeats. -/
def Obligations.ReadsHaveNoSideEffects : Prop :=
  (∀ (s : State) (rest : List Event) (r : Reg), s.events = .host (.read 32 r.offset) :: rest →
    step s = .next { s with events := rest, response := .data (s.readRegister r) }) ∧
  (∀ (s : State) (rest : List Event) (r : Reg),
    s.events = .host (.read 32 r.offset) :: .host (.read 32 r.offset) :: rest →
    ∃ t, step s = .next t ∧ t.response = .data (s.readRegister r) ∧ step t = .next { t with events := rest }) ∧
  (∀ (s : State) (rest : List Event) (r : Reg) (v : Word), r ≠ .cmd → r ≠ .status →
    s.events = .host (.write 32 r.offset v) :: rest →
    step s = .next { s with events := rest, response := .written }) ∧
  (∀ (s t : State) (rest : List Event) (a : Access), s.events = .host a :: rest → step s = .next t →
    t.stream = s.stream ∧ t.out = s.out ∧
    (t.requestOutstanding = true → s.requestOutstanding = true ∨
      ∃ v, a = .write 32 0x00 v ∧ v.toNat % 256 = 4))

/-- Byte lanes are little-endian: the lanes of REC_TS_LO are payload bytes 0 to 3 in order, those of REC_TS_HI bytes 4 to 7
(20_memory.md R63). -/
def Obligations.TimestampLanesAreWireBytes : Prop :=
  ∀ (s : State) (p : List Byte) (i : Nat), s.recValid = true → s.record = decodePayload p → p.length = 31 → i < 4 →
    byteLane (s.readRegister .recTsLo) i = p.getD i 0 ∧ byteLane (s.readRegister .recTsHi) i = p.getD (4 + i) 0

/-- Between a FRAME.STEP's issue and its commit the host sees only FSTATE and BUSY change (20_memory.md R74). That the
record registers read as before while REC_VALID = 0 too is the model's choice (log 3). -/
def Obligations.OnlyFstateVisibleBeforeCommit : Prop :=
  ∀ (s t : State),
    (s.fstate = .awaitingFrame ∧ exec .frameStep s = .next t) ∨
    (∃ rest, s.fstate = .readPending ∧ s.events = .source (.deliver 32) :: rest ∧ 32 ≤ s.stream.length ∧
      step s = .next t) →
    t.busy = true ∧ (t.readRegister .status).extractLsb' 4 28 = (s.readRegister .status).extractLsb' 4 28 ∧
    (∀ r, r ≠ .status → t.readRegister r = s.readRegister r) ∧ t.out = s.out

/-- The order of the checks of one access (60_exceptions.md R256): the reset input overrides an access, BusError comes
before CommandOverrun, that before IllegalCommand by opcode, and that before the state check. -/
def Obligations.ChecksInPriorityOrder : Prop :=
  (∀ (s : State) (rest : List Event) (a : Access) (n : Nat),
    s.events = .resetInput (some a) n :: rest → step s = step { s with events := .resetInput none n :: rest }) ∧
  (∀ (s : State) (rest : List Event) (v : Word), s.busy = true → s.events = .host (.write 16 0x00 v) :: rest →
    step s = .next { s with events := rest, response := .error 0x00 }) ∧
  (∀ (s : State) (rest : List Event) (v : Word), s.busy = true → 6 ≤ v.toNat % 256 → s.events = commandWrite v :: rest →
    step s = .next { s with events := rest, ovr := true, response := .written }) ∧
  (∀ (s : State) (rest : List Event) (v : Word), s.fstate.terminal = true → v.toNat % 256 = 4 ∨ 6 ≤ v.toNat % 256 →
    s.events = commandWrite v :: rest →
    step s = .next { s with events := rest, illcmd := true, response := .written })

/-- ILLCMD and OVR stay set until the host writes 1 to their STATUS bit or a reset occurs (10_state.md R32;
60_exceptions.md R259). -/
def Obligations.ErrorBitsAreSticky : Prop :=
  ∀ s t : State, step s = .next t →
    (s.illcmd = true → t.illcmd = true ∨ s.resetNext ∨
      ∃ v rest, s.events = .host (.write 32 0x04 v) :: rest ∧ v.getLsbD 7 = true) ∧
    (s.ovr = true → t.ovr = true ∨ s.resetNext ∨
      ∃ v rest, s.events = .host (.write 32 0x04 v) :: rest ∧ v.getLsbD 8 = true)

/-! ### Reset -/

/-- The reset input, at any time (70_reset_and_hazards.md R280, R281): every specified reset value; a request outstanding
is abandoned and no outcome is emitted. That the bytes it consumed are gone from the source at the reset is the model's
choice (log 8). -/
def Obligations.ResetInputActsAtAnyTime : Prop :=
  ∀ (s : State) (rest : List Event) (a : Option Access) (n : Nat), s.events = .resetInput a n :: rest → n ≤ 32 →
    ∃ t, step s = .next t ∧
      t.crc = 0x00 ∧ t.fstate = .awaitingFrame ∧ t.busy = false ∧ t.stDone = true ∧ t.stPass = true ∧
      t.cntTotal = 0 ∧ t.cntGood = 0 ∧ t.cntBadCrc = 0 ∧ t.cntShort = 0 ∧ t.lastCode = .none ∧ t.lastShortLen = 0 ∧
      t.recValid = false ∧ t.illcmd = false ∧ t.ovr = false ∧ t.out = s.out ∧ t.events = rest ∧
      t.readRegister .status = 0x00000030 ∧ t.readRegister .crcr = 0 ∧ t.readRegister .outcome = 0 ∧
      (s.fstate = .readPending → t.abandoned = s.abandoned + 1 ∧ t.stream = s.stream.drop n) ∧
      (s.fstate ≠ .readPending → t.abandoned = s.abandoned ∧ t.stream = s.stream)

/-- A late answer to an abandoned request is discarded and has no effect on the core, whether or not a new request is
outstanding (70_reset_and_hazards.md R281). -/
def Obligations.LateAnswerDiscarded : Prop :=
  ∀ (s : State) (rest : List Event) (n : Nat), s.events = .lateAnswer :: rest → s.abandoned = n + 1 →
    step s = .next { s with events := rest, abandoned := n }

/-- The host-visible state right after reset (70_reset_and_hazards.md R280; 10_state.md R43). -/
def Obligations.ResetStateReads : Prop :=
  State.reset.readRegister .cmd = 0 ∧ State.reset.readRegister .status = 0x00000030 ∧
  State.reset.readRegister .crcr = 0 ∧ State.reset.readRegister .outcome = 0 ∧
  State.reset.readRegister .cntTotal = 0 ∧ State.reset.readRegister .cntGood = 0 ∧
  State.reset.readRegister .cntBadCrc = 0 ∧ State.reset.readRegister .cntShort = 0 ∧
  State.reset.requestOutstanding = false ∧ State.reset.out = []

/-! ### Invariants and rules of the whole machine -/

/-- The invariant holds right after reset. -/
def Obligations.ResetEstablishesInvariant : Prop := State.reset.Inv

/-- Every step keeps the invariant (10_state.md R44, R29, R30). -/
def Obligations.StepKeepsInvariant : Prop :=
  ∀ s t : State, s.Inv → step s = .next t → t.Inv

/-- A terminal framer state is left only by a reset (10_state.md R24; 60_exceptions.md R259). -/
def Obligations.TerminalLeftOnlyByReset : Prop :=
  ∀ s t : State, step s = .next t → s.fstate.terminal = true → ¬ s.resetNext →
    t.fstate = s.fstate ∧ t.out = s.out

/-- The record registers are written only by a `Decoded` commit, all together, and REC_VALID is cleared only by a reset
(10_state.md R30, R31). -/
def Obligations.RecordWrittenOnlyByDecoded : Prop :=
  ∀ s t : State, step s = .next t → ¬ s.resetNext →
    (t.record = s.record ∧ t.recValid = s.recValid) ∨
    (∃ r, s.fstate = .haveCompleteFrame ∧ t.out = s.out ++ [.decoded r] ∧ t.record = r ∧ t.recValid = true)

/-- FB changes only by a source's answer or a reset: no command but SRESET, and no other event, changes a byte of it
(10_state.md R27). -/
def Obligations.FrameBufferWriters : Prop :=
  (∀ (i : Instr) (s t : State), i ≠ .sreset → exec i s = .next t → ∀ a, t.fb.read a = s.fb.read a) ∧
  (∀ s t : State, step s = .next t → ¬ s.resetNext → (∀ a rest, s.events ≠ .source a :: rest) →
    ∀ a, t.fb.read a = s.fb.read a)

/-- Every command answers a next state in every state: none faults, none is refused (43_control.md R230). -/
def Obligations.EveryCommandWordCompletes : Prop :=
  ∀ (v : Word) (s : State), ∃ t, dispatchWord v s = .next t ∧ t.events = s.events ∧ t.stream = s.stream ∧
    t.out = s.out ∧ t.response = s.response ∧
    (s.busy = true → t = { s with ovr := true }) ∧ (6 ≤ v.toNat % 256 → s.busy = false → t = { s with illcmd := true })
end

