-- ==== Sys2Proof/Laws/Bytes.lean ====
section
/-! SUPPORT. Little-endian bytes and values (20_memory.md R62), and the laws of one CRC byte step (40_crc.md R121). -/

namespace Sys2Proof

@[simp] theorem leBytes_length (n v : Nat) : (leBytes n v).length = n := by
  induction n generalizing v with
  | zero => rfl
  | succ n ih => simp [leBytes, ih]

theorem leValue_lt (bytes : List Byte) : leValue bytes < 256 ^ bytes.length := by
  induction bytes with
  | nil => simp [leValue]
  | cons b rest ih =>
    have hb := b.isLt
    simp only [leValue, List.length_cons, Nat.pow_succ]
    omega

/-- The value of the `n` low bytes is the number modulo 256^n. -/
theorem leValue_leBytes (n v : Nat) : leValue (leBytes n v) = v % 256 ^ n := by
  induction n generalizing v with
  | zero => simp [leBytes, leValue, Nat.mod_one]
  | succ n ih =>
    have h : (BitVec.ofNat 8 v).toNat = v % 256 := by simp
    rw [leBytes, leValue, ih, h, Nat.pow_succ', Nat.mod_mul]

/-- The bytes of the value of a byte sequence are that sequence. -/
theorem leBytes_leValue (bytes : List Byte) : leBytes bytes.length (leValue bytes) = bytes := by
  induction bytes with
  | nil => rfl
  | cons b rest ih =>
    have hb := b.isLt
    have h1 : (b.toNat + 256 * leValue rest) / 256 = leValue rest := by omega
    have h2 : BitVec.ofNat 8 (b.toNat + 256 * leValue rest) = b := by
      apply BitVec.eq_of_toNat_eq
      simp only [BitVec.toNat_ofNat]
      omega
    simp only [List.length_cons, leBytes, leValue, h1, h2, ih]

/-- Digit `i` to base 256 of the value of a byte sequence is its byte `i`. -/
theorem leValue_digit (bytes : List Byte) (i : Nat) : leValue bytes / 256 ^ i % 256 = (bytes.getD i 0).toNat := by
  induction bytes generalizing i with
  | nil => simp [leValue]
  | cons b rest ih =>
    have hb := b.isLt
    cases i with
    | zero =>
      simp only [leValue, Nat.pow_zero, Nat.div_one, List.getD_cons_zero]
      omega
    | succ i =>
      have h : (b.toNat + 256 * leValue rest) / 256 = leValue rest := by omega
      rw [leValue, Nat.pow_succ', ← Nat.div_div_eq_div_mul, h, ih, List.getD_cons_succ]

namespace Machine

@[simp] theorem crcFold_nil (r : Byte) : crcFold r [] = r := rfl

@[simp] theorem crcFold_cons (r b : Byte) (rest : List Byte) : crcFold r (b :: rest) = crcFold (crcStep r b) rest := rfl

theorem crcFold_append (r : Byte) (a b : List Byte) : crcFold r (a ++ b) = crcFold (crcFold r a) b := by
  simp [crcFold]

/-- One round is linear over GF(2). -/
theorem crcShift_xor (a b : Byte) : crcShift (a ^^^ b) = crcShift a ^^^ crcShift b := by
  simp only [crcShift, BitVec.getLsbD_xor, BitVec.shiftLeft_xor_distrib]
  generalize a <<< 1 = a', b <<< 1 = b', Config.crcPoly = p
  cases a.getLsbD 7 <;> cases b.getLsbD 7 <;> ext i hi <;> simp <;> cases a'[i] <;> cases b'[i] <;> cases p[i] <;> rfl

theorem crcRounds_xor (n : Nat) (a b : Byte) : crcShift^[n] (a ^^^ b) = crcShift^[n] a ^^^ crcShift^[n] b := by
  induction n generalizing a b with
  | zero => rfl
  | succ n ih => simp only [Function.iterate_succ, Function.comp, crcShift_xor, ih]

/-- A byte step depends on the register and the byte only through their XOR: CrcStep(r, b) = T[r ^ b]
(40_crc.md R121). -/
theorem crcStep_xor (r b : Byte) : crcStep r b = crcStep 0 (r ^^^ b) := by simp [crcStep]

end Machine

end Sys2Proof
end

