-- ==== Sys2Proof/Laws/Decode.lean ====
section
/-! SUPPORT. The decoder by the number of its OP field (30_encoding.md R90, R91). -/

namespace Sys2Proof

theorem cmdOp_toNat (v : Word) : (cmdOp v).toNat = v.toNat % 256 := by simp [cmdOp]

theorem cmdImm8_eq (v : Word) : cmdImm8 v = BitVec.ofNat 8 (v.toNat / 256) := by
  apply BitVec.eq_of_toNat_eq
  simp [cmdImm8, BitVec.extractLsb'_toNat, Nat.shiftRight_eq_div_pow]

/-- A word decodes iff OP is below 6. -/
theorem decode_ok_iff (v : Word) : (∃ i, decode v = .ok i) ↔ v.toNat % 256 < 6 := by
  unfold decode
  rw [cmdOp_toNat]
  constructor
  · rintro ⟨i, h⟩
    split at h <;> first | omega | cases h
  · intro h
    interval_cases v.toNat % 256 <;> exact ⟨_, rfl⟩

/-- An illegal opcode is rejected by name. -/
theorem decode_illegal {v : Word} (h : 6 ≤ v.toNat % 256) : decode v = .error (.illegalOpcode (cmdOp v)) := by
  unfold decode
  rw [cmdOp_toNat]
  split <;> first | omega | rfl

/-- OP's value is the opcode of the command read. -/
theorem decode_opcode {v : Word} {i : Instr} (h : decode v = .ok i) :
    v.toNat % 256 = match i with
      | .nop => 0 | .crcInit => 1 | .crcUpd _ => 2 | .selftest => 3 | .frameStep => 4 | .sreset => 5 := by
  unfold decode at h
  rw [cmdOp_toNat] at h
  split at h <;> cases h <;> assumption

end Sys2Proof
end

