-- ==== Sys2Proof/Laws/Memory.lean ====
section
/-! SUPPORT. The frame buffer: every operation keeps the canonical form, and a byte read after a write is the byte
written, or the byte that was there (20_memory.md R65). -/

namespace Sys2Proof.Machine

theorem Memory.wfFrom_mono {low low' : Nat} {m : Memory} (hle : low' ≤ low) (h : Memory.wfFrom low m = true) :
    Memory.wfFrom low' m = true := by
  cases m with
  | nil => rfl
  | cons c rest =>
    obtain ⟨k, v⟩ := c
    simp only [Memory.wfFrom, Bool.and_eq_true, decide_eq_true_eq] at h ⊢
    exact ⟨⟨⟨by omega, h.1.1.2⟩, h.1.2⟩, h.2⟩

/-- Below the first address that may be listed, every byte is the unlisted one. -/
theorem Memory.read_below {low a : Nat} {m : Memory} (h : Memory.wfFrom low m = true) (ha : a < low) :
    Memory.read m a = Memory.unlisted := by
  cases m with
  | nil => rfl
  | cons c rest =>
    obtain ⟨k, v⟩ := c
    simp only [Memory.wfFrom, Bool.and_eq_true, decide_eq_true_eq] at h
    have hk : a < k := by omega
    simp [Memory.read, hk, Nat.ne_of_lt hk]

theorem Memory.consCell_wf {low a : Nat} {b : Byte} {rest : Memory} (hlow : low ≤ a) (ha : a < Config.frameLen)
    (h : Memory.wfFrom (a + 1) rest = true) : Memory.wfFrom low (Memory.consCell a b rest) = true := by
  unfold Memory.consCell
  split
  · exact Memory.wfFrom_mono (by omega) h
  · simp_all [Memory.wfFrom]

theorem Memory.write_wfFrom {low a : Nat} {b : Byte} {m : Memory} (hlow : low ≤ a) (ha : a < Config.frameLen)
    (h : Memory.wfFrom low m = true) : Memory.wfFrom low (Memory.write m a b) = true := by
  induction m generalizing low with
  | nil => exact Memory.consCell_wf hlow ha rfl
  | cons c rest ih =>
    obtain ⟨k, v⟩ := c
    have h0 := h
    simp only [Memory.wfFrom, Bool.and_eq_true, decide_eq_true_eq, bne_iff_ne] at h
    simp only [Memory.write]
    split
    · subst a; exact Memory.consCell_wf hlow ha h.2
    · split
      · refine Memory.consCell_wf hlow ha ?_
        simp only [Memory.wfFrom, Bool.and_eq_true, decide_eq_true_eq, bne_iff_ne]
        exact ⟨⟨⟨by omega, h.1.1.2⟩, h.1.2⟩, h.2⟩
      · simp only [Memory.wfFrom, Bool.and_eq_true, decide_eq_true_eq, bne_iff_ne]
        exact ⟨⟨⟨h.1.1.1, h.1.1.2⟩, h.1.2⟩, ih (by omega) h.2⟩

/-- A write inside the buffer keeps the canonical form. -/
theorem Memory.write_wf {m : Memory} {a : Nat} {b : Byte} (h : m.wf = true) (ha : a < Config.frameLen) :
    (m.write a b).wf = true :=
  Memory.write_wfFrom (Nat.zero_le a) ha h

/-- Stores inside the buffer keep the canonical form. -/
theorem Memory.store_wf {m : Memory} {a : Nat} {bytes : List Byte} (h : m.wf = true)
    (ha : a + bytes.length ≤ Config.frameLen) : (m.store a bytes).wf = true := by
  induction bytes generalizing m a with
  | nil => exact h
  | cons b rest ih =>
    simp only [List.length_cons] at ha
    exact ih (Memory.write_wf h (by omega)) (by omega)

theorem unspecifiedFrame_wf (n : Nat) : (unspecifiedFrame n).wf = true :=
  Memory.store_wf rfl (by simp)

theorem Memory.read_consCell {low a x : Nat} {b : Byte} {rest : Memory} (ha : a < low)
    (h : Memory.wfFrom low rest = true) :
    Memory.read (Memory.consCell a b rest) x = if x = a then b else Memory.read rest x := by
  unfold Memory.consCell
  split
  · next hb =>
    split
    · next hx => rw [hx, hb]; exact Memory.read_below h ha
    · rfl
  · simp only [Memory.read]
    split
    · rfl
    · split
      · exact (Memory.read_below h (by omega)).symm
      · rfl

/-- Reading one byte after writing one. -/
theorem Memory.read_write {low a x : Nat} {b : Byte} {m : Memory} (h : Memory.wfFrom low m = true) :
    Memory.read (Memory.write m a b) x = if x = a then b else Memory.read m x := by
  induction m generalizing low with
  | nil =>
    exact Memory.read_consCell (low := a + 1) (by omega) rfl
  | cons c rest ih =>
    obtain ⟨k, v⟩ := c
    have h0 := h
    simp only [Memory.wfFrom, Bool.and_eq_true, decide_eq_true_eq] at h
    simp only [Memory.write]
    split
    · next hak =>
      subst hak
      rw [Memory.read_consCell (low := a + 1) (by omega) h.2]
      by_cases hx : x = a
      · simp [hx]
      · simp only [hx, if_false, Memory.read]
        split
        · next hlt => exact Memory.read_below h.2 (by omega)
        · rfl
    · split
      · next hak hlt =>
        refine Memory.read_consCell (low := k) hlt ?_
        exact by
          simp only [Memory.wfFrom, Bool.and_eq_true, decide_eq_true_eq]
          exact ⟨⟨⟨Nat.le_refl k, h.1.1.2⟩, h.1.2⟩, h.2⟩
      · next hak hlt =>
        simp only [Memory.read, ih h.2]
        by_cases hx : x = k
        · subst hx; simp [Ne.symm hak]
        · simp only [hx, if_false]
          by_cases hxk : x < k
          · have : x ≠ a := by omega
            simp [hxk, this]
          · simp [hxk]

/-- Reading one byte after storing several. -/
theorem Memory.read_store {m : Memory} {a x : Nat} {bytes : List Byte} (h : m.wf = true)
    (ha : a + bytes.length ≤ Config.frameLen) :
    (m.store a bytes).read x = if a ≤ x then bytes.getD (x - a) (m.read x) else m.read x := by
  induction bytes generalizing m a with
  | nil => simp [Memory.store]
  | cons b rest ih =>
    simp only [List.length_cons] at ha
    simp only [Memory.store]
    rw [ih (Memory.write_wf h (by omega)) (by omega), Memory.read_write h]
    by_cases hx : a ≤ x
    · by_cases hxa : x = a
      · subst hxa; simp
      · have h1 : a + 1 ≤ x := by omega
        obtain ⟨d, hd⟩ : ∃ d, x - a = d + 1 := ⟨x - a - 1, by omega⟩
        have h2 : x - (a + 1) = d := by omega
        simp [hx, h1, hd, h2, hxa]
    · have h1 : ¬ a + 1 ≤ x := by omega
      have h2 : x ≠ a := by omega
      simp [hx, h1, h2]

theorem Memory.load_length (m : Memory) (a n : Nat) : (m.load a n).length = n := by
  induction n generalizing a with
  | zero => rfl
  | succ n ih => simp [Memory.load, ih]

theorem Memory.load_getD (m : Memory) (a n i : Nat) (d : Byte) (hi : i < n) : (m.load a n).getD i d = m.read (a + i) := by
  induction n generalizing a i with
  | zero => omega
  | succ n ih =>
    cases i with
    | zero => simp [Memory.load]
    | succ i => simpa [Memory.load, Nat.add_comm, Nat.add_left_comm] using ih (a + 1) i (by omega)

/-- A whole frame stored is the frame loaded (42_framer.md R185). -/
theorem Memory.load_store_frame {m : Memory} {bytes : List Byte} (h : m.wf = true)
    (hlen : bytes.length = Config.frameLen) : (m.store 0 bytes).load 0 Config.frameLen = bytes := by
  apply List.ext_getElem
  · rw [Memory.load_length, hlen]
  · intro i h1 h2
    have hi : i < Config.frameLen := by omega
    have e := Memory.load_getD (m.store 0 bytes) 0 Config.frameLen i 0 hi
    rw [Memory.read_store h (by omega)] at e
    simp only [List.getD_eq_getElem?_getD, List.getElem?_eq_getElem h1, Option.getD_some] at e
    rw [e]
    simp [h2]

end Sys2Proof.Machine
end

