-- ==== Sys2Proof/Laws/State.lean ====
section
/-! SUPPORT. What each named update of State does to each field: one lemma per field and update, by rfl. -/

namespace Sys2Proof.Machine

variable (s : State)

@[simp] theorem State.setCrc_crc (v : Byte) : (s.setCrc v).crc = v := rfl
@[simp] theorem State.setCrc_fstate (v : Byte) : (s.setCrc v).fstate = s.fstate := rfl
@[simp] theorem State.setCrc_stDone (v : Byte) : (s.setCrc v).stDone = s.stDone := rfl
@[simp] theorem State.setCrc_stPass (v : Byte) : (s.setCrc v).stPass = s.stPass := rfl
@[simp] theorem State.setCrc_fb (v : Byte) : (s.setCrc v).fb = s.fb := rfl
@[simp] theorem State.setCrc_cntTotal (v : Byte) : (s.setCrc v).cntTotal = s.cntTotal := rfl
@[simp] theorem State.setCrc_cntGood (v : Byte) : (s.setCrc v).cntGood = s.cntGood := rfl
@[simp] theorem State.setCrc_cntBadCrc (v : Byte) : (s.setCrc v).cntBadCrc = s.cntBadCrc := rfl
@[simp] theorem State.setCrc_cntShort (v : Byte) : (s.setCrc v).cntShort = s.cntShort := rfl
@[simp] theorem State.setCrc_lastCode (v : Byte) : (s.setCrc v).lastCode = s.lastCode := rfl
@[simp] theorem State.setCrc_lastShortLen (v : Byte) : (s.setCrc v).lastShortLen = s.lastShortLen := rfl
@[simp] theorem State.setCrc_record (v : Byte) : (s.setCrc v).record = s.record := rfl
@[simp] theorem State.setCrc_recValid (v : Byte) : (s.setCrc v).recValid = s.recValid := rfl
@[simp] theorem State.setCrc_illcmd (v : Byte) : (s.setCrc v).illcmd = s.illcmd := rfl
@[simp] theorem State.setCrc_ovr (v : Byte) : (s.setCrc v).ovr = s.ovr := rfl
@[simp] theorem State.setCrc_out (v : Byte) : (s.setCrc v).out = s.out := rfl
@[simp] theorem State.setCrc_response (v : Byte) : (s.setCrc v).response = s.response := rfl
@[simp] theorem State.setCrc_events (v : Byte) : (s.setCrc v).events = s.events := rfl
@[simp] theorem State.setCrc_stream (v : Byte) : (s.setCrc v).stream = s.stream := rfl
@[simp] theorem State.setCrc_abandoned (v : Byte) : (s.setCrc v).abandoned = s.abandoned := rfl
@[simp] theorem State.setCrc_resets (v : Byte) : (s.setCrc v).resets = s.resets := rfl
@[simp] theorem State.setCrc_frameDraws (v : Byte) : (s.setCrc v).frameDraws = s.frameDraws := rfl

@[simp] theorem State.setFrameState_crc (f : FrameState) : (s.setFrameState f).crc = s.crc := rfl
@[simp] theorem State.setFrameState_fstate (f : FrameState) : (s.setFrameState f).fstate = f := rfl
@[simp] theorem State.setFrameState_stDone (f : FrameState) : (s.setFrameState f).stDone = s.stDone := rfl
@[simp] theorem State.setFrameState_stPass (f : FrameState) : (s.setFrameState f).stPass = s.stPass := rfl
@[simp] theorem State.setFrameState_fb (f : FrameState) : (s.setFrameState f).fb = s.fb := rfl
@[simp] theorem State.setFrameState_cntTotal (f : FrameState) : (s.setFrameState f).cntTotal = s.cntTotal := rfl
@[simp] theorem State.setFrameState_cntGood (f : FrameState) : (s.setFrameState f).cntGood = s.cntGood := rfl
@[simp] theorem State.setFrameState_cntBadCrc (f : FrameState) : (s.setFrameState f).cntBadCrc = s.cntBadCrc := rfl
@[simp] theorem State.setFrameState_cntShort (f : FrameState) : (s.setFrameState f).cntShort = s.cntShort := rfl
@[simp] theorem State.setFrameState_lastCode (f : FrameState) : (s.setFrameState f).lastCode = s.lastCode := rfl
@[simp] theorem State.setFrameState_lastShortLen (f : FrameState) : (s.setFrameState f).lastShortLen = s.lastShortLen := rfl
@[simp] theorem State.setFrameState_record (f : FrameState) : (s.setFrameState f).record = s.record := rfl
@[simp] theorem State.setFrameState_recValid (f : FrameState) : (s.setFrameState f).recValid = s.recValid := rfl
@[simp] theorem State.setFrameState_illcmd (f : FrameState) : (s.setFrameState f).illcmd = s.illcmd := rfl
@[simp] theorem State.setFrameState_ovr (f : FrameState) : (s.setFrameState f).ovr = s.ovr := rfl
@[simp] theorem State.setFrameState_out (f : FrameState) : (s.setFrameState f).out = s.out := rfl
@[simp] theorem State.setFrameState_response (f : FrameState) : (s.setFrameState f).response = s.response := rfl
@[simp] theorem State.setFrameState_events (f : FrameState) : (s.setFrameState f).events = s.events := rfl
@[simp] theorem State.setFrameState_stream (f : FrameState) : (s.setFrameState f).stream = s.stream := rfl
@[simp] theorem State.setFrameState_abandoned (f : FrameState) : (s.setFrameState f).abandoned = s.abandoned := rfl
@[simp] theorem State.setFrameState_resets (f : FrameState) : (s.setFrameState f).resets = s.resets := rfl
@[simp] theorem State.setFrameState_frameDraws (f : FrameState) : (s.setFrameState f).frameDraws = s.frameDraws := rfl

@[simp] theorem State.setSelfTest_crc (p : Bool) : (s.setSelfTest p).crc = s.crc := rfl
@[simp] theorem State.setSelfTest_fstate (p : Bool) : (s.setSelfTest p).fstate = s.fstate := rfl
@[simp] theorem State.setSelfTest_stDone (p : Bool) : (s.setSelfTest p).stDone = true := rfl
@[simp] theorem State.setSelfTest_stPass (p : Bool) : (s.setSelfTest p).stPass = p := rfl
@[simp] theorem State.setSelfTest_fb (p : Bool) : (s.setSelfTest p).fb = s.fb := rfl
@[simp] theorem State.setSelfTest_cntTotal (p : Bool) : (s.setSelfTest p).cntTotal = s.cntTotal := rfl
@[simp] theorem State.setSelfTest_cntGood (p : Bool) : (s.setSelfTest p).cntGood = s.cntGood := rfl
@[simp] theorem State.setSelfTest_cntBadCrc (p : Bool) : (s.setSelfTest p).cntBadCrc = s.cntBadCrc := rfl
@[simp] theorem State.setSelfTest_cntShort (p : Bool) : (s.setSelfTest p).cntShort = s.cntShort := rfl
@[simp] theorem State.setSelfTest_lastCode (p : Bool) : (s.setSelfTest p).lastCode = s.lastCode := rfl
@[simp] theorem State.setSelfTest_lastShortLen (p : Bool) : (s.setSelfTest p).lastShortLen = s.lastShortLen := rfl
@[simp] theorem State.setSelfTest_record (p : Bool) : (s.setSelfTest p).record = s.record := rfl
@[simp] theorem State.setSelfTest_recValid (p : Bool) : (s.setSelfTest p).recValid = s.recValid := rfl
@[simp] theorem State.setSelfTest_illcmd (p : Bool) : (s.setSelfTest p).illcmd = s.illcmd := rfl
@[simp] theorem State.setSelfTest_ovr (p : Bool) : (s.setSelfTest p).ovr = s.ovr := rfl
@[simp] theorem State.setSelfTest_out (p : Bool) : (s.setSelfTest p).out = s.out := rfl
@[simp] theorem State.setSelfTest_response (p : Bool) : (s.setSelfTest p).response = s.response := rfl
@[simp] theorem State.setSelfTest_events (p : Bool) : (s.setSelfTest p).events = s.events := rfl
@[simp] theorem State.setSelfTest_stream (p : Bool) : (s.setSelfTest p).stream = s.stream := rfl
@[simp] theorem State.setSelfTest_abandoned (p : Bool) : (s.setSelfTest p).abandoned = s.abandoned := rfl
@[simp] theorem State.setSelfTest_resets (p : Bool) : (s.setSelfTest p).resets = s.resets := rfl
@[simp] theorem State.setSelfTest_frameDraws (p : Bool) : (s.setSelfTest p).frameDraws = s.frameDraws := rfl

@[simp] theorem State.setFrame_crc (b : List Byte) : (s.setFrame b).crc = s.crc := rfl
@[simp] theorem State.setFrame_fstate (b : List Byte) : (s.setFrame b).fstate = s.fstate := rfl
@[simp] theorem State.setFrame_stDone (b : List Byte) : (s.setFrame b).stDone = s.stDone := rfl
@[simp] theorem State.setFrame_stPass (b : List Byte) : (s.setFrame b).stPass = s.stPass := rfl
@[simp] theorem State.setFrame_fb (b : List Byte) : (s.setFrame b).fb = s.fb.store 0 b := rfl
@[simp] theorem State.setFrame_cntTotal (b : List Byte) : (s.setFrame b).cntTotal = s.cntTotal := rfl
@[simp] theorem State.setFrame_cntGood (b : List Byte) : (s.setFrame b).cntGood = s.cntGood := rfl
@[simp] theorem State.setFrame_cntBadCrc (b : List Byte) : (s.setFrame b).cntBadCrc = s.cntBadCrc := rfl
@[simp] theorem State.setFrame_cntShort (b : List Byte) : (s.setFrame b).cntShort = s.cntShort := rfl
@[simp] theorem State.setFrame_lastCode (b : List Byte) : (s.setFrame b).lastCode = s.lastCode := rfl
@[simp] theorem State.setFrame_lastShortLen (b : List Byte) : (s.setFrame b).lastShortLen = s.lastShortLen := rfl
@[simp] theorem State.setFrame_record (b : List Byte) : (s.setFrame b).record = s.record := rfl
@[simp] theorem State.setFrame_recValid (b : List Byte) : (s.setFrame b).recValid = s.recValid := rfl
@[simp] theorem State.setFrame_illcmd (b : List Byte) : (s.setFrame b).illcmd = s.illcmd := rfl
@[simp] theorem State.setFrame_ovr (b : List Byte) : (s.setFrame b).ovr = s.ovr := rfl
@[simp] theorem State.setFrame_out (b : List Byte) : (s.setFrame b).out = s.out := rfl
@[simp] theorem State.setFrame_response (b : List Byte) : (s.setFrame b).response = s.response := rfl
@[simp] theorem State.setFrame_events (b : List Byte) : (s.setFrame b).events = s.events := rfl
@[simp] theorem State.setFrame_stream (b : List Byte) : (s.setFrame b).stream = s.stream := rfl
@[simp] theorem State.setFrame_abandoned (b : List Byte) : (s.setFrame b).abandoned = s.abandoned := rfl
@[simp] theorem State.setFrame_resets (b : List Byte) : (s.setFrame b).resets = s.resets := rfl
@[simp] theorem State.setFrame_frameDraws (b : List Byte) : (s.setFrame b).frameDraws = s.frameDraws := rfl

@[simp] theorem State.setRecord_crc (r : Record) : (s.setRecord r).crc = s.crc := rfl
@[simp] theorem State.setRecord_fstate (r : Record) : (s.setRecord r).fstate = s.fstate := rfl
@[simp] theorem State.setRecord_stDone (r : Record) : (s.setRecord r).stDone = s.stDone := rfl
@[simp] theorem State.setRecord_stPass (r : Record) : (s.setRecord r).stPass = s.stPass := rfl
@[simp] theorem State.setRecord_fb (r : Record) : (s.setRecord r).fb = s.fb := rfl
@[simp] theorem State.setRecord_cntTotal (r : Record) : (s.setRecord r).cntTotal = s.cntTotal := rfl
@[simp] theorem State.setRecord_cntGood (r : Record) : (s.setRecord r).cntGood = s.cntGood := rfl
@[simp] theorem State.setRecord_cntBadCrc (r : Record) : (s.setRecord r).cntBadCrc = s.cntBadCrc := rfl
@[simp] theorem State.setRecord_cntShort (r : Record) : (s.setRecord r).cntShort = s.cntShort := rfl
@[simp] theorem State.setRecord_lastCode (r : Record) : (s.setRecord r).lastCode = s.lastCode := rfl
@[simp] theorem State.setRecord_lastShortLen (r : Record) : (s.setRecord r).lastShortLen = s.lastShortLen := rfl
@[simp] theorem State.setRecord_record (r : Record) : (s.setRecord r).record = r := rfl
@[simp] theorem State.setRecord_recValid (r : Record) : (s.setRecord r).recValid = true := rfl
@[simp] theorem State.setRecord_illcmd (r : Record) : (s.setRecord r).illcmd = s.illcmd := rfl
@[simp] theorem State.setRecord_ovr (r : Record) : (s.setRecord r).ovr = s.ovr := rfl
@[simp] theorem State.setRecord_out (r : Record) : (s.setRecord r).out = s.out := rfl
@[simp] theorem State.setRecord_response (r : Record) : (s.setRecord r).response = s.response := rfl
@[simp] theorem State.setRecord_events (r : Record) : (s.setRecord r).events = s.events := rfl
@[simp] theorem State.setRecord_stream (r : Record) : (s.setRecord r).stream = s.stream := rfl
@[simp] theorem State.setRecord_abandoned (r : Record) : (s.setRecord r).abandoned = s.abandoned := rfl
@[simp] theorem State.setRecord_resets (r : Record) : (s.setRecord r).resets = s.resets := rfl
@[simp] theorem State.setRecord_frameDraws (r : Record) : (s.setRecord r).frameDraws = s.frameDraws := rfl

@[simp] theorem State.countTotal_crc : (s.countTotal).crc = s.crc := rfl
@[simp] theorem State.countTotal_fstate : (s.countTotal).fstate = s.fstate := rfl
@[simp] theorem State.countTotal_stDone : (s.countTotal).stDone = s.stDone := rfl
@[simp] theorem State.countTotal_stPass : (s.countTotal).stPass = s.stPass := rfl
@[simp] theorem State.countTotal_fb : (s.countTotal).fb = s.fb := rfl
@[simp] theorem State.countTotal_cntTotal : (s.countTotal).cntTotal = s.cntTotal + 1 := rfl
@[simp] theorem State.countTotal_cntGood : (s.countTotal).cntGood = s.cntGood := rfl
@[simp] theorem State.countTotal_cntBadCrc : (s.countTotal).cntBadCrc = s.cntBadCrc := rfl
@[simp] theorem State.countTotal_cntShort : (s.countTotal).cntShort = s.cntShort := rfl
@[simp] theorem State.countTotal_lastCode : (s.countTotal).lastCode = s.lastCode := rfl
@[simp] theorem State.countTotal_lastShortLen : (s.countTotal).lastShortLen = s.lastShortLen := rfl
@[simp] theorem State.countTotal_record : (s.countTotal).record = s.record := rfl
@[simp] theorem State.countTotal_recValid : (s.countTotal).recValid = s.recValid := rfl
@[simp] theorem State.countTotal_illcmd : (s.countTotal).illcmd = s.illcmd := rfl
@[simp] theorem State.countTotal_ovr : (s.countTotal).ovr = s.ovr := rfl
@[simp] theorem State.countTotal_out : (s.countTotal).out = s.out := rfl
@[simp] theorem State.countTotal_response : (s.countTotal).response = s.response := rfl
@[simp] theorem State.countTotal_events : (s.countTotal).events = s.events := rfl
@[simp] theorem State.countTotal_stream : (s.countTotal).stream = s.stream := rfl
@[simp] theorem State.countTotal_abandoned : (s.countTotal).abandoned = s.abandoned := rfl
@[simp] theorem State.countTotal_resets : (s.countTotal).resets = s.resets := rfl
@[simp] theorem State.countTotal_frameDraws : (s.countTotal).frameDraws = s.frameDraws := rfl

@[simp] theorem State.countGood_crc : (s.countGood).crc = s.crc := rfl
@[simp] theorem State.countGood_fstate : (s.countGood).fstate = s.fstate := rfl
@[simp] theorem State.countGood_stDone : (s.countGood).stDone = s.stDone := rfl
@[simp] theorem State.countGood_stPass : (s.countGood).stPass = s.stPass := rfl
@[simp] theorem State.countGood_fb : (s.countGood).fb = s.fb := rfl
@[simp] theorem State.countGood_cntTotal : (s.countGood).cntTotal = s.cntTotal := rfl
@[simp] theorem State.countGood_cntGood : (s.countGood).cntGood = s.cntGood + 1 := rfl
@[simp] theorem State.countGood_cntBadCrc : (s.countGood).cntBadCrc = s.cntBadCrc := rfl
@[simp] theorem State.countGood_cntShort : (s.countGood).cntShort = s.cntShort := rfl
@[simp] theorem State.countGood_lastCode : (s.countGood).lastCode = s.lastCode := rfl
@[simp] theorem State.countGood_lastShortLen : (s.countGood).lastShortLen = s.lastShortLen := rfl
@[simp] theorem State.countGood_record : (s.countGood).record = s.record := rfl
@[simp] theorem State.countGood_recValid : (s.countGood).recValid = s.recValid := rfl
@[simp] theorem State.countGood_illcmd : (s.countGood).illcmd = s.illcmd := rfl
@[simp] theorem State.countGood_ovr : (s.countGood).ovr = s.ovr := rfl
@[simp] theorem State.countGood_out : (s.countGood).out = s.out := rfl
@[simp] theorem State.countGood_response : (s.countGood).response = s.response := rfl
@[simp] theorem State.countGood_events : (s.countGood).events = s.events := rfl
@[simp] theorem State.countGood_stream : (s.countGood).stream = s.stream := rfl
@[simp] theorem State.countGood_abandoned : (s.countGood).abandoned = s.abandoned := rfl
@[simp] theorem State.countGood_resets : (s.countGood).resets = s.resets := rfl
@[simp] theorem State.countGood_frameDraws : (s.countGood).frameDraws = s.frameDraws := rfl

@[simp] theorem State.countBadCrc_crc : (s.countBadCrc).crc = s.crc := rfl
@[simp] theorem State.countBadCrc_fstate : (s.countBadCrc).fstate = s.fstate := rfl
@[simp] theorem State.countBadCrc_stDone : (s.countBadCrc).stDone = s.stDone := rfl
@[simp] theorem State.countBadCrc_stPass : (s.countBadCrc).stPass = s.stPass := rfl
@[simp] theorem State.countBadCrc_fb : (s.countBadCrc).fb = s.fb := rfl
@[simp] theorem State.countBadCrc_cntTotal : (s.countBadCrc).cntTotal = s.cntTotal := rfl
@[simp] theorem State.countBadCrc_cntGood : (s.countBadCrc).cntGood = s.cntGood := rfl
@[simp] theorem State.countBadCrc_cntBadCrc : (s.countBadCrc).cntBadCrc = s.cntBadCrc + 1 := rfl
@[simp] theorem State.countBadCrc_cntShort : (s.countBadCrc).cntShort = s.cntShort := rfl
@[simp] theorem State.countBadCrc_lastCode : (s.countBadCrc).lastCode = s.lastCode := rfl
@[simp] theorem State.countBadCrc_lastShortLen : (s.countBadCrc).lastShortLen = s.lastShortLen := rfl
@[simp] theorem State.countBadCrc_record : (s.countBadCrc).record = s.record := rfl
@[simp] theorem State.countBadCrc_recValid : (s.countBadCrc).recValid = s.recValid := rfl
@[simp] theorem State.countBadCrc_illcmd : (s.countBadCrc).illcmd = s.illcmd := rfl
@[simp] theorem State.countBadCrc_ovr : (s.countBadCrc).ovr = s.ovr := rfl
@[simp] theorem State.countBadCrc_out : (s.countBadCrc).out = s.out := rfl
@[simp] theorem State.countBadCrc_response : (s.countBadCrc).response = s.response := rfl
@[simp] theorem State.countBadCrc_events : (s.countBadCrc).events = s.events := rfl
@[simp] theorem State.countBadCrc_stream : (s.countBadCrc).stream = s.stream := rfl
@[simp] theorem State.countBadCrc_abandoned : (s.countBadCrc).abandoned = s.abandoned := rfl
@[simp] theorem State.countBadCrc_resets : (s.countBadCrc).resets = s.resets := rfl
@[simp] theorem State.countBadCrc_frameDraws : (s.countBadCrc).frameDraws = s.frameDraws := rfl

@[simp] theorem State.countShort_crc : (s.countShort).crc = s.crc := rfl
@[simp] theorem State.countShort_fstate : (s.countShort).fstate = s.fstate := rfl
@[simp] theorem State.countShort_stDone : (s.countShort).stDone = s.stDone := rfl
@[simp] theorem State.countShort_stPass : (s.countShort).stPass = s.stPass := rfl
@[simp] theorem State.countShort_fb : (s.countShort).fb = s.fb := rfl
@[simp] theorem State.countShort_cntTotal : (s.countShort).cntTotal = s.cntTotal := rfl
@[simp] theorem State.countShort_cntGood : (s.countShort).cntGood = s.cntGood := rfl
@[simp] theorem State.countShort_cntBadCrc : (s.countShort).cntBadCrc = s.cntBadCrc := rfl
@[simp] theorem State.countShort_cntShort : (s.countShort).cntShort = s.cntShort + 1 := rfl
@[simp] theorem State.countShort_lastCode : (s.countShort).lastCode = s.lastCode := rfl
@[simp] theorem State.countShort_lastShortLen : (s.countShort).lastShortLen = s.lastShortLen := rfl
@[simp] theorem State.countShort_record : (s.countShort).record = s.record := rfl
@[simp] theorem State.countShort_recValid : (s.countShort).recValid = s.recValid := rfl
@[simp] theorem State.countShort_illcmd : (s.countShort).illcmd = s.illcmd := rfl
@[simp] theorem State.countShort_ovr : (s.countShort).ovr = s.ovr := rfl
@[simp] theorem State.countShort_out : (s.countShort).out = s.out := rfl
@[simp] theorem State.countShort_response : (s.countShort).response = s.response := rfl
@[simp] theorem State.countShort_events : (s.countShort).events = s.events := rfl
@[simp] theorem State.countShort_stream : (s.countShort).stream = s.stream := rfl
@[simp] theorem State.countShort_abandoned : (s.countShort).abandoned = s.abandoned := rfl
@[simp] theorem State.countShort_resets : (s.countShort).resets = s.resets := rfl
@[simp] theorem State.countShort_frameDraws : (s.countShort).frameDraws = s.frameDraws := rfl

@[simp] theorem State.commit_crc (f : FrameState) (o : FrameOutcome) : (s.commit f o).crc = s.crc := rfl
@[simp] theorem State.commit_fstate (f : FrameState) (o : FrameOutcome) : (s.commit f o).fstate = f := rfl
@[simp] theorem State.commit_stDone (f : FrameState) (o : FrameOutcome) : (s.commit f o).stDone = s.stDone := rfl
@[simp] theorem State.commit_stPass (f : FrameState) (o : FrameOutcome) : (s.commit f o).stPass = s.stPass := rfl
@[simp] theorem State.commit_fb (f : FrameState) (o : FrameOutcome) : (s.commit f o).fb = s.fb := rfl
@[simp] theorem State.commit_cntTotal (f : FrameState) (o : FrameOutcome) : (s.commit f o).cntTotal = s.cntTotal := rfl
@[simp] theorem State.commit_cntGood (f : FrameState) (o : FrameOutcome) : (s.commit f o).cntGood = s.cntGood := rfl
@[simp] theorem State.commit_cntBadCrc (f : FrameState) (o : FrameOutcome) : (s.commit f o).cntBadCrc = s.cntBadCrc := rfl
@[simp] theorem State.commit_cntShort (f : FrameState) (o : FrameOutcome) : (s.commit f o).cntShort = s.cntShort := rfl
@[simp] theorem State.commit_lastCode (f : FrameState) (o : FrameOutcome) : (s.commit f o).lastCode = o.code := rfl
@[simp] theorem State.commit_lastShortLen (f : FrameState) (o : FrameOutcome) : (s.commit f o).lastShortLen = o.shortLen := rfl
@[simp] theorem State.commit_record (f : FrameState) (o : FrameOutcome) : (s.commit f o).record = s.record := rfl
@[simp] theorem State.commit_recValid (f : FrameState) (o : FrameOutcome) : (s.commit f o).recValid = s.recValid := rfl
@[simp] theorem State.commit_illcmd (f : FrameState) (o : FrameOutcome) : (s.commit f o).illcmd = s.illcmd := rfl
@[simp] theorem State.commit_ovr (f : FrameState) (o : FrameOutcome) : (s.commit f o).ovr = s.ovr := rfl
@[simp] theorem State.commit_out (f : FrameState) (o : FrameOutcome) : (s.commit f o).out = s.out ++ [o] := rfl
@[simp] theorem State.commit_response (f : FrameState) (o : FrameOutcome) : (s.commit f o).response = s.response := rfl
@[simp] theorem State.commit_events (f : FrameState) (o : FrameOutcome) : (s.commit f o).events = s.events := rfl
@[simp] theorem State.commit_stream (f : FrameState) (o : FrameOutcome) : (s.commit f o).stream = s.stream := rfl
@[simp] theorem State.commit_abandoned (f : FrameState) (o : FrameOutcome) : (s.commit f o).abandoned = s.abandoned := rfl
@[simp] theorem State.commit_resets (f : FrameState) (o : FrameOutcome) : (s.commit f o).resets = s.resets := rfl
@[simp] theorem State.commit_frameDraws (f : FrameState) (o : FrameOutcome) : (s.commit f o).frameDraws = s.frameDraws := rfl

@[simp] theorem State.respond_crc (r : BusResponse) : (s.respond r).crc = s.crc := rfl
@[simp] theorem State.respond_fstate (r : BusResponse) : (s.respond r).fstate = s.fstate := rfl
@[simp] theorem State.respond_stDone (r : BusResponse) : (s.respond r).stDone = s.stDone := rfl
@[simp] theorem State.respond_stPass (r : BusResponse) : (s.respond r).stPass = s.stPass := rfl
@[simp] theorem State.respond_fb (r : BusResponse) : (s.respond r).fb = s.fb := rfl
@[simp] theorem State.respond_cntTotal (r : BusResponse) : (s.respond r).cntTotal = s.cntTotal := rfl
@[simp] theorem State.respond_cntGood (r : BusResponse) : (s.respond r).cntGood = s.cntGood := rfl
@[simp] theorem State.respond_cntBadCrc (r : BusResponse) : (s.respond r).cntBadCrc = s.cntBadCrc := rfl
@[simp] theorem State.respond_cntShort (r : BusResponse) : (s.respond r).cntShort = s.cntShort := rfl
@[simp] theorem State.respond_lastCode (r : BusResponse) : (s.respond r).lastCode = s.lastCode := rfl
@[simp] theorem State.respond_lastShortLen (r : BusResponse) : (s.respond r).lastShortLen = s.lastShortLen := rfl
@[simp] theorem State.respond_record (r : BusResponse) : (s.respond r).record = s.record := rfl
@[simp] theorem State.respond_recValid (r : BusResponse) : (s.respond r).recValid = s.recValid := rfl
@[simp] theorem State.respond_illcmd (r : BusResponse) : (s.respond r).illcmd = s.illcmd := rfl
@[simp] theorem State.respond_ovr (r : BusResponse) : (s.respond r).ovr = s.ovr := rfl
@[simp] theorem State.respond_out (r : BusResponse) : (s.respond r).out = s.out := rfl
@[simp] theorem State.respond_response (r : BusResponse) : (s.respond r).response = r := rfl
@[simp] theorem State.respond_events (r : BusResponse) : (s.respond r).events = s.events := rfl
@[simp] theorem State.respond_stream (r : BusResponse) : (s.respond r).stream = s.stream := rfl
@[simp] theorem State.respond_abandoned (r : BusResponse) : (s.respond r).abandoned = s.abandoned := rfl
@[simp] theorem State.respond_resets (r : BusResponse) : (s.respond r).resets = s.resets := rfl
@[simp] theorem State.respond_frameDraws (r : BusResponse) : (s.respond r).frameDraws = s.frameDraws := rfl

@[simp] theorem State.setStream_crc (b : List Byte) : (s.setStream b).crc = s.crc := rfl
@[simp] theorem State.setStream_fstate (b : List Byte) : (s.setStream b).fstate = s.fstate := rfl
@[simp] theorem State.setStream_stDone (b : List Byte) : (s.setStream b).stDone = s.stDone := rfl
@[simp] theorem State.setStream_stPass (b : List Byte) : (s.setStream b).stPass = s.stPass := rfl
@[simp] theorem State.setStream_fb (b : List Byte) : (s.setStream b).fb = s.fb := rfl
@[simp] theorem State.setStream_cntTotal (b : List Byte) : (s.setStream b).cntTotal = s.cntTotal := rfl
@[simp] theorem State.setStream_cntGood (b : List Byte) : (s.setStream b).cntGood = s.cntGood := rfl
@[simp] theorem State.setStream_cntBadCrc (b : List Byte) : (s.setStream b).cntBadCrc = s.cntBadCrc := rfl
@[simp] theorem State.setStream_cntShort (b : List Byte) : (s.setStream b).cntShort = s.cntShort := rfl
@[simp] theorem State.setStream_lastCode (b : List Byte) : (s.setStream b).lastCode = s.lastCode := rfl
@[simp] theorem State.setStream_lastShortLen (b : List Byte) : (s.setStream b).lastShortLen = s.lastShortLen := rfl
@[simp] theorem State.setStream_record (b : List Byte) : (s.setStream b).record = s.record := rfl
@[simp] theorem State.setStream_recValid (b : List Byte) : (s.setStream b).recValid = s.recValid := rfl
@[simp] theorem State.setStream_illcmd (b : List Byte) : (s.setStream b).illcmd = s.illcmd := rfl
@[simp] theorem State.setStream_ovr (b : List Byte) : (s.setStream b).ovr = s.ovr := rfl
@[simp] theorem State.setStream_out (b : List Byte) : (s.setStream b).out = s.out := rfl
@[simp] theorem State.setStream_response (b : List Byte) : (s.setStream b).response = s.response := rfl
@[simp] theorem State.setStream_events (b : List Byte) : (s.setStream b).events = s.events := rfl
@[simp] theorem State.setStream_stream (b : List Byte) : (s.setStream b).stream = b := rfl
@[simp] theorem State.setStream_abandoned (b : List Byte) : (s.setStream b).abandoned = s.abandoned := rfl
@[simp] theorem State.setStream_resets (b : List Byte) : (s.setStream b).resets = s.resets := rfl
@[simp] theorem State.setStream_frameDraws (b : List Byte) : (s.setStream b).frameDraws = s.frameDraws := rfl

@[simp] theorem State.setEvents_crc (e : List Event) : (s.setEvents e).crc = s.crc := rfl
@[simp] theorem State.setEvents_fstate (e : List Event) : (s.setEvents e).fstate = s.fstate := rfl
@[simp] theorem State.setEvents_stDone (e : List Event) : (s.setEvents e).stDone = s.stDone := rfl
@[simp] theorem State.setEvents_stPass (e : List Event) : (s.setEvents e).stPass = s.stPass := rfl
@[simp] theorem State.setEvents_fb (e : List Event) : (s.setEvents e).fb = s.fb := rfl
@[simp] theorem State.setEvents_cntTotal (e : List Event) : (s.setEvents e).cntTotal = s.cntTotal := rfl
@[simp] theorem State.setEvents_cntGood (e : List Event) : (s.setEvents e).cntGood = s.cntGood := rfl
@[simp] theorem State.setEvents_cntBadCrc (e : List Event) : (s.setEvents e).cntBadCrc = s.cntBadCrc := rfl
@[simp] theorem State.setEvents_cntShort (e : List Event) : (s.setEvents e).cntShort = s.cntShort := rfl
@[simp] theorem State.setEvents_lastCode (e : List Event) : (s.setEvents e).lastCode = s.lastCode := rfl
@[simp] theorem State.setEvents_lastShortLen (e : List Event) : (s.setEvents e).lastShortLen = s.lastShortLen := rfl
@[simp] theorem State.setEvents_record (e : List Event) : (s.setEvents e).record = s.record := rfl
@[simp] theorem State.setEvents_recValid (e : List Event) : (s.setEvents e).recValid = s.recValid := rfl
@[simp] theorem State.setEvents_illcmd (e : List Event) : (s.setEvents e).illcmd = s.illcmd := rfl
@[simp] theorem State.setEvents_ovr (e : List Event) : (s.setEvents e).ovr = s.ovr := rfl
@[simp] theorem State.setEvents_out (e : List Event) : (s.setEvents e).out = s.out := rfl
@[simp] theorem State.setEvents_response (e : List Event) : (s.setEvents e).response = s.response := rfl
@[simp] theorem State.setEvents_events (e : List Event) : (s.setEvents e).events = e := rfl
@[simp] theorem State.setEvents_stream (e : List Event) : (s.setEvents e).stream = s.stream := rfl
@[simp] theorem State.setEvents_abandoned (e : List Event) : (s.setEvents e).abandoned = s.abandoned := rfl
@[simp] theorem State.setEvents_resets (e : List Event) : (s.setEvents e).resets = s.resets := rfl
@[simp] theorem State.setEvents_frameDraws (e : List Event) : (s.setEvents e).frameDraws = s.frameDraws := rfl

@[simp] theorem State.forgetFrame_crc : (s.forgetFrame).crc = s.crc := rfl
@[simp] theorem State.forgetFrame_fstate : (s.forgetFrame).fstate = s.fstate := rfl
@[simp] theorem State.forgetFrame_stDone : (s.forgetFrame).stDone = s.stDone := rfl
@[simp] theorem State.forgetFrame_stPass : (s.forgetFrame).stPass = s.stPass := rfl
@[simp] theorem State.forgetFrame_fb : (s.forgetFrame).fb = unspecifiedFrame s.frameDraws := rfl
@[simp] theorem State.forgetFrame_cntTotal : (s.forgetFrame).cntTotal = s.cntTotal := rfl
@[simp] theorem State.forgetFrame_cntGood : (s.forgetFrame).cntGood = s.cntGood := rfl
@[simp] theorem State.forgetFrame_cntBadCrc : (s.forgetFrame).cntBadCrc = s.cntBadCrc := rfl
@[simp] theorem State.forgetFrame_cntShort : (s.forgetFrame).cntShort = s.cntShort := rfl
@[simp] theorem State.forgetFrame_lastCode : (s.forgetFrame).lastCode = s.lastCode := rfl
@[simp] theorem State.forgetFrame_lastShortLen : (s.forgetFrame).lastShortLen = s.lastShortLen := rfl
@[simp] theorem State.forgetFrame_record : (s.forgetFrame).record = s.record := rfl
@[simp] theorem State.forgetFrame_recValid : (s.forgetFrame).recValid = s.recValid := rfl
@[simp] theorem State.forgetFrame_illcmd : (s.forgetFrame).illcmd = s.illcmd := rfl
@[simp] theorem State.forgetFrame_ovr : (s.forgetFrame).ovr = s.ovr := rfl
@[simp] theorem State.forgetFrame_out : (s.forgetFrame).out = s.out := rfl
@[simp] theorem State.forgetFrame_response : (s.forgetFrame).response = s.response := rfl
@[simp] theorem State.forgetFrame_events : (s.forgetFrame).events = s.events := rfl
@[simp] theorem State.forgetFrame_stream : (s.forgetFrame).stream = s.stream := rfl
@[simp] theorem State.forgetFrame_abandoned : (s.forgetFrame).abandoned = s.abandoned := rfl
@[simp] theorem State.forgetFrame_resets : (s.forgetFrame).resets = s.resets := rfl
@[simp] theorem State.forgetFrame_frameDraws : (s.forgetFrame).frameDraws = s.frameDraws + 1 := rfl

@[simp] theorem State.clearErrors_crc (v : Word) : (s.clearErrors v).crc = s.crc := rfl
@[simp] theorem State.clearErrors_fstate (v : Word) : (s.clearErrors v).fstate = s.fstate := rfl
@[simp] theorem State.clearErrors_stDone (v : Word) : (s.clearErrors v).stDone = s.stDone := rfl
@[simp] theorem State.clearErrors_stPass (v : Word) : (s.clearErrors v).stPass = s.stPass := rfl
@[simp] theorem State.clearErrors_fb (v : Word) : (s.clearErrors v).fb = s.fb := rfl
@[simp] theorem State.clearErrors_cntTotal (v : Word) : (s.clearErrors v).cntTotal = s.cntTotal := rfl
@[simp] theorem State.clearErrors_cntGood (v : Word) : (s.clearErrors v).cntGood = s.cntGood := rfl
@[simp] theorem State.clearErrors_cntBadCrc (v : Word) : (s.clearErrors v).cntBadCrc = s.cntBadCrc := rfl
@[simp] theorem State.clearErrors_cntShort (v : Word) : (s.clearErrors v).cntShort = s.cntShort := rfl
@[simp] theorem State.clearErrors_lastCode (v : Word) : (s.clearErrors v).lastCode = s.lastCode := rfl
@[simp] theorem State.clearErrors_lastShortLen (v : Word) : (s.clearErrors v).lastShortLen = s.lastShortLen := rfl
@[simp] theorem State.clearErrors_record (v : Word) : (s.clearErrors v).record = s.record := rfl
@[simp] theorem State.clearErrors_recValid (v : Word) : (s.clearErrors v).recValid = s.recValid := rfl
@[simp] theorem State.clearErrors_illcmd (v : Word) : (s.clearErrors v).illcmd = (s.illcmd && !v.getLsbD 7) := rfl
@[simp] theorem State.clearErrors_ovr (v : Word) : (s.clearErrors v).ovr = (s.ovr && !v.getLsbD 8) := rfl
@[simp] theorem State.clearErrors_out (v : Word) : (s.clearErrors v).out = s.out := rfl
@[simp] theorem State.clearErrors_response (v : Word) : (s.clearErrors v).response = s.response := rfl
@[simp] theorem State.clearErrors_events (v : Word) : (s.clearErrors v).events = s.events := rfl
@[simp] theorem State.clearErrors_stream (v : Word) : (s.clearErrors v).stream = s.stream := rfl
@[simp] theorem State.clearErrors_abandoned (v : Word) : (s.clearErrors v).abandoned = s.abandoned := rfl
@[simp] theorem State.clearErrors_resets (v : Word) : (s.clearErrors v).resets = s.resets := rfl
@[simp] theorem State.clearErrors_frameDraws (v : Word) : (s.clearErrors v).frameDraws = s.frameDraws := rfl

end Sys2Proof.Machine
end

