-- ==== Sys2Proof/Laws/Ops.lean ====
section
/-! SUPPORT. One lemma per shared operation: everything it can do. -/

namespace Sys2Proof.Machine

/-- The BUSY check: a busy machine drops the command and sets OVR, an idle one has the effect (60_exceptions.md R253). -/
theorem State.unlessBusy_cases (s : State) (f : State → State) :
    (s.busy = true ∧ s.unlessBusy f = s.raise .commandOverrun) ∨ (s.busy = false ∧ s.unlessBusy f = f s) := by
  unfold State.unlessBusy
  cases s.busy <;> simp

@[simp] theorem State.unlessBusy_busy {s : State} (h : s.busy = true) (f : State → State) :
    s.unlessBusy f = s.raise .commandOverrun := by simp [State.unlessBusy, h]

@[simp] theorem State.unlessBusy_idle {s : State} (h : s.busy = false) (f : State → State) :
    s.unlessBusy f = f s := by simp [State.unlessBusy, h]

/-- The machine is busy iff FSTATE = READ_PENDING or HAVE_COMPLETE_FRAME (10_state.md R25). -/
theorem State.busy_iff (s : State) : s.busy = true ↔ s.fstate = .readPending ∨ s.fstate = .haveCompleteFrame := by
  unfold State.busy
  cases s.fstate <;> simp [FrameState.busy]

theorem State.not_busy_iff (s : State) : s.busy = false ↔ s.fstate = .awaitingFrame ∨ s.fstate.terminal = true := by
  unfold State.busy
  cases s.fstate <;> simp [FrameState.busy, FrameState.terminal]

theorem State.requestOutstanding_iff (s : State) : s.requestOutstanding = true ↔ s.fstate = .readPending := by
  simp [State.requestOutstanding]

/-- The required self-test passes (40_crc.md R127). -/
theorem selfTestPasses_true : selfTestPasses = true := by decide +kernel

/-- An access reaches a register iff it is 32 bits wide, aligned, and below 0x48 (20_memory.md R64). -/
theorem accessedReg_none_iff (width off : Nat) :
    accessedReg width off = none ↔ off % 4 ≠ 0 ∨ width ≠ 32 ∨ 0x48 ≤ off := by
  unfold accessedReg
  split
  · next h => simpa [Config.regWidth, Config.regSpace] using h
  · next h =>
    simp only [Config.regWidth, Config.regSpace] at h
    have hlen : Reg.all.length = 18 := rfl
    simp only [h, iff_false]
    rw [List.getElem?_eq_none_iff]
    omega

theorem accessedReg_offset (r : Reg) : accessedReg 32 r.offset = some r := by cases r <;> rfl

theorem accessedReg_some {width off : Nat} {r : Reg} (h : accessedReg width off = some r) :
    width = 32 ∧ off = r.offset := by
  have hn : ¬ (off % 4 ≠ 0 ∨ width ≠ 32 ∨ 0x48 ≤ off) := fun hc => by
    rw [(accessedReg_none_iff width off).mpr hc] at h; cases h
  have hw : width = 32 := by omega
  refine ⟨hw, ?_⟩
  subst hw
  obtain ⟨k, hk, hlt⟩ : ∃ k, off = 4 * k ∧ k < 18 := ⟨off / 4, by omega, by omega⟩
  subst hk
  interval_cases k <;> (injection h.symm.trans rfl with e; subst e; rfl)

/-- A register read depends on no field outside the core (20_memory.md R70). -/
theorem State.readRegister_congr {s t : State} (hs : s.statusWord = t.statusWord) (hc : s.crc = t.crc)
    (ho : s.outcomeWord = t.outcomeWord) (ht : s.cntTotal = t.cntTotal) (hg : s.cntGood = t.cntGood)
    (hb : s.cntBadCrc = t.cntBadCrc) (hsh : s.cntShort = t.cntShort) (hr : s.visibleRecord = t.visibleRecord) (r : Reg) :
    s.readRegister r = t.readRegister r := by
  cases r <;> simp only [State.readRegister, hs, hc, ho, ht, hg, hb, hsh, hr]

/-- By its length, an answer's bytes end the stream, are a short tail, or are a frame (42_framer.md R180). -/
theorem State.takeBytes_cases (s : State) {bytes : List Byte} (h : bytes.length ≤ 32) :
    (bytes.length = 0 ∧ s.takeBytes bytes = s.endStream) ∨
    (bytes.length = 32 ∧ s.takeBytes bytes = s.takeFrame bytes) ∨
    (1 ≤ bytes.length ∧ bytes.length ≤ 31 ∧ s.takeBytes bytes = s.endShort bytes.length) := by
  by_cases h0 : bytes.length = 0
  · exact .inl ⟨h0, by simp [State.takeBytes, h0]⟩
  · by_cases h1 : bytes.length = 32
    · exact .inr (.inl ⟨h1, by simp [State.takeBytes, h1, Config.frameLen]⟩)
    · exact .inr (.inr ⟨by omega, by omega, by simp only [State.takeBytes, Config.frameLen, h0, h1, if_false]⟩)

/-- The validate step decodes a frame whose checksum matches and reports a mismatch otherwise (42_framer.md R187, R188). -/
theorem State.validate_cases (s : State) :
    (frameValid s.frame = true ∧ s.validate = s.commitDecoded (decodePayload (framePayload s.frame))) ∨
    (frameValid s.frame = false ∧ s.validate = s.commitMismatch) := by
  unfold State.validate
  cases frameValid s.frame <;> simp

end Sys2Proof.Machine
end

