-- ==== Sys2Proof/Laws/Step.lean ====
section
/-! SUPPORT. What a step can do, said once: the effect of each command, and the cases of a step that answers a next
state. -/

namespace Sys2Proof.Machine

/-- A command's effect when the machine is not busy. -/
def commandEffect : Instr → State → State
  | .nop, s => s
  | .crcInit, s => s.setCrc Config.crcInit
  | .crcUpd b, s => s.setCrc (crcStep s.crc b)
  | .selftest, s => s.setSelfTest selfTestPasses
  | .frameStep, s => if s.fstate.terminal then s.raise .illegalCommand else s.setFrameState .readPending
  | .sreset, s => s.resetCore

/-- Every command answers a next state: dropped while busy, its effect otherwise (43_control.md R230). -/
theorem exec_eq (i : Instr) (s : State) : exec i s = .next (s.unlessBusy (commandEffect i)) := by
  cases i <;> rfl

/-- The ways a step can answer a next state, `u` being the state with the performed event taken from the list. -/
inductive StepCase (s : State) : State → Prop where
  | idleValidate (he : s.events = []) (hf : s.fstate = .haveCompleteFrame) : StepCase s s.validate
  | validate (rest : List Event) (he : s.events = .core :: rest) (hf : s.fstate = .haveCompleteFrame) :
      StepCase s (s.setEvents rest).validate
  | read (rest : List Event) (r : Reg) (he : s.events = .host (.read 32 r.offset) :: rest) :
      StepCase s ((s.setEvents rest).respond (.data ((s.setEvents rest).readRegister r)))
  | busError (rest : List Event) (a : Access) (off : Nat) (he : s.events = .host a :: rest) :
      StepCase s ((s.setEvents rest).raise (.busError off))
  | command (rest : List Event) (v : Word) (i : Instr) (he : s.events = commandWrite v :: rest) (hd : decode v = .ok i) :
      StepCase s (((s.setEvents rest).unlessBusy (commandEffect i)).respond .written)
  | illegalWord (rest : List Event) (v : Word) (op : DecodeError) (he : s.events = commandWrite v :: rest)
      (hd : decode v = .error op) :
      StepCase s (((s.setEvents rest).unlessBusy fun u => u.raise .illegalCommand).respond .written)
  | clear (rest : List Event) (v : Word) (he : s.events = .host (.write 32 Reg.status.offset v) :: rest) :
      StepCase s (((s.setEvents rest).clearErrors v).respond .written)
  | ignoredWrite (rest : List Event) (r : Reg) (v : Word) (hr : r ≠ .cmd ∧ r ≠ .status)
      (he : s.events = .host (.write 32 r.offset v) :: rest) : StepCase s ((s.setEvents rest).respond .written)
  | deliver (rest : List Event) (n : Nat) (hn : n ≤ 32) (he : s.events = .source (.deliver n) :: rest)
      (hf : s.fstate = .readPending) :
      StepCase s (((s.setEvents rest).setStream (s.stream.drop n)).takeBytes (s.stream.take n))
  | fail (rest : List Event) (n : Nat) (hn : n ≤ 32) (he : s.events = .source (.fail n) :: rest)
      (hf : s.fstate = .readPending) : StepCase s (((s.setEvents rest).setStream (s.stream.drop n)).endFailed)
  | late (rest : List Event) (n : Nat) (he : s.events = .lateAnswer :: rest) (ha : s.abandoned = n + 1) :
      StepCase s { s.setEvents rest with abandoned := n }
  | reset (rest : List Event) (a : Option Access) (n : Nat) (hn : n ≤ 32) (he : s.events = .resetInput a n :: rest) :
      StepCase s (resetInput n (s.setEvents rest))
  | attach (rest : List Event) (bytes : List Byte) (he : s.events = .attach bytes :: rest) :
      StepCase s ((s.setEvents rest).setStream bytes)

theorem regWrite_case {rest : List Event} {s t : State} {width off : Nat} {v : Word}
    (he : s.events = .host (.write width off v) :: rest) (h : regWrite width off v (s.setEvents rest) = .next t) :
    StepCase s t := by
  unfold regWrite at h
  split at h
  · cases h; exact .busError rest _ off he
  · next r hr =>
    obtain ⟨rfl, rfl⟩ := accessedReg_some hr
    by_cases hc : r = .cmd
    · subst hc
      simp only [writeRegister, dispatchWord] at h
      split at h
      · next i hi => rw [exec_eq] at h; cases h; exact .command rest v i he hi
      · next op ho => cases h; exact .illegalWord rest v op he ho
    · by_cases hs : r = .status
      · subst hs; cases h; exact .clear rest v he
      · have : writeRegister r v (s.setEvents rest) = .next (s.setEvents rest) := by
          cases r <;> first | rfl | exact absurd rfl hc | exact absurd rfl hs
        rw [this] at h; cases h
        exact .ignoredWrite rest r v ⟨hc, hs⟩ he

/-- A step that answers a next state is one of the cases. -/
theorem step_cases {s t : State} (h : step s = .next t) : StepCase s t := by
  unfold step at h
  split at h
  · next he =>
    unfold noMove at h
    split at h
    · next hf => cases h; exact .idleValidate he hf
    · split at h <;> cases h
  · next e rest he =>
    unfold perform at h
    split at h
    · next hw =>
      cases e with
      | host a =>
        cases a with
        | read width off =>
          simp only [hostAccess, regRead] at h
          split at h
          · cases h; exact .busError rest _ off he
          · next r hr =>
            obtain ⟨rfl, rfl⟩ := accessedReg_some hr
            cases h; exact .read rest r he
        | write width off v => exact regWrite_case he h
      | source a =>
        simp only [sourceAnswers] at h
        split at h
        · next hq =>
          have hf : s.fstate = .readPending := of_decide_eq_true hq
          cases a with
          | deliver n =>
            cases h
            exact .deliver rest n (of_decide_eq_true hw) he hf
          | fail n =>
            cases h
            exact .fail rest n (of_decide_eq_true hw) he hf
        · cases h
      | lateAnswer =>
        simp only [lateAnswers] at h
        split at h
        · cases h
        · next n hn => cases h; exact .late rest n he hn
      | core =>
        simp only [coreMoves] at h
        split at h
        · next hf => cases h; exact .validate rest he hf
        · cases h
      | resetInput a n =>
        cases h
        exact .reset rest a n (of_decide_eq_true hw) he
      | attach bytes => cases h; exact .attach rest bytes he
    · cases h

end Sys2Proof.Machine
end

