-- ==== Sys2Proof/Laws/Kinds.lean ====
section
/-! SUPPORT. What a step does to the framer's state, said once and by kind: a reset, a quiet step, a frame loaded, or a
commit. Rules about OUT, the tally, the record registers and FB follow from it. -/

namespace Sys2Proof.Machine

/-- The framer's registers that stay as they are except at a commit or a reset. -/
structure SameFramer (s t : State) : Prop where
  out : t.out = s.out
  lastCode : t.lastCode = s.lastCode
  lastShortLen : t.lastShortLen = s.lastShortLen
  cntTotal : t.cntTotal = s.cntTotal
  cntGood : t.cntGood = s.cntGood
  cntBadCrc : t.cntBadCrc = s.cntBadCrc
  cntShort : t.cntShort = s.cntShort
  record : t.record = s.record
  recValid : t.recValid = s.recValid

/-- What a commit of the outcome `o` does to the framer's registers (42_framer.md R184, R186, R187, R188, R190). -/
structure Committed (s t : State) (f : FrameState) (o : FrameOutcome) : Prop where
  fstate : t.fstate = f
  out : t.out = s.out ++ [o]
  lastCode : t.lastCode = o.code
  lastShortLen : t.lastShortLen = o.shortLen
  cntGood : t.cntGood = if o.code = .decoded then s.cntGood + 1 else s.cntGood
  cntBadCrc : t.cntBadCrc = if o.code = .checksumMismatch then s.cntBadCrc + 1 else s.cntBadCrc
  cntShort : t.cntShort = if o.code = .shortFrame then s.cntShort + 1 else s.cntShort
  cntTotal : t.cntTotal = if o.code = .decoded ∨ o.code = .checksumMismatch then s.cntTotal + 1 else s.cntTotal
  record : (∃ r, o = .decoded r ∧ t.record = r ∧ t.recValid = true) ∨
    (o.code ≠ .decoded ∧ t.record = s.record ∧ t.recValid = s.recValid)
  illcmd : t.illcmd = s.illcmd
  ovr : t.ovr = s.ovr
  crc : t.crc = s.crc
  selfTest : t.stDone = s.stDone ∧ t.stPass = s.stPass

/-- The kinds of step that answer a next state. -/
inductive StepKind (s t : State) : Prop where
  /-- A reset: the state is `resetCore` of a state that differs from `s` at most in what stands outside the core. -/
  | reset (u : State) (hr : s.resetNext) (ht : t = u.resetCore.respond t.response) (ho : u.out = s.out)
      (hq : u.fstate = s.fstate)
      (hs : t.stream = s.stream ∨ (s.fstate = .readPending ∧ ∃ n, n ≤ 32 ∧ t.stream = s.stream.drop n))
  /-- Nothing of the framer changes but, at the issue of a FRAME.STEP, FSTATE. -/
  | quiet (hsame : SameFramer s t) (hfb : t.fb = s.fb)
      (hf : t.fstate = s.fstate ∨ (s.fstate = .awaitingFrame ∧ t.fstate = .readPending))
      (hst : s.stDone = true ∧ s.stPass = true → t.stDone = true ∧ t.stPass = true)
      (hs : t.stream = s.stream ∨ ∃ bytes rest, s.events = .attach bytes :: rest)
  /-- A complete frame is taken into FB. -/
  | load (rest : List Event) (bytes : List Byte) (he : ∃ n, s.events = .source (.deliver n) :: rest)
      (hsame : SameFramer s t) (hf : s.fstate = .readPending) (hg : t.fstate = .haveCompleteFrame)
      (hlen : bytes.length = 32) (hfb : t.fb = s.fb.store 0 bytes)
      (hflags : t.illcmd = s.illcmd ∧ t.ovr = s.ovr ∧ t.crc = s.crc ∧ t.stDone = s.stDone ∧ t.stPass = s.stPass)
      (hs : ∃ n, n ≤ 32 ∧ t.stream = s.stream.drop n)
  /-- The source's answer ends the stream: a short tail, the end, or a failure. -/
  | terminal (f : FrameState) (o : FrameOutcome) (rest : List Event) (he : ∃ a, s.events = .source a :: rest)
      (hf : s.fstate = .readPending) (hc : Committed s t f o)
      (ho : (f = .endOfStream ∧ o = .endOfStream) ∨ (f = .sourceError ∧ o = .sourceUnavailable) ∨
        ∃ n, 1 ≤ n ∧ n ≤ 31 ∧ f = .shortFrame ∧ o = .shortFrame n)
      (hfb : ∃ k, t.fb = unspecifiedFrame k) (hs : ∃ n, n ≤ 32 ∧ t.stream = s.stream.drop n)
  /-- The validate step: a frame decoded or a mismatch. -/
  | validated (o : FrameOutcome) (hf : s.fstate = .haveCompleteFrame) (hc : Committed s t .awaitingFrame o)
      (ho : o = .checksumMismatch ∨ ∃ r, o = .decoded r) (hfb : t.fb = s.fb) (hs : t.stream = s.stream)

theorem committed_validate (s : State) :
    ∃ o, Committed s s.validate .awaitingFrame o ∧ (o = .checksumMismatch ∨ ∃ r, o = .decoded r) := by
  rcases s.validate_cases with ⟨-, e⟩ | ⟨-, e⟩ <;> rw [e]
  · exact ⟨_, ⟨rfl, rfl, rfl, rfl, rfl, rfl, rfl, rfl, .inl ⟨_, rfl, rfl, rfl⟩, rfl, rfl, rfl, rfl, rfl⟩, .inr ⟨_, rfl⟩⟩
  · exact ⟨_, ⟨rfl, rfl, rfl, rfl, rfl, rfl, rfl, rfl, .inr ⟨by decide, rfl, rfl⟩, rfl, rfl, rfl, rfl, rfl⟩, .inl rfl⟩

theorem validate_outside (s : State) : s.validate.fb = s.fb ∧ s.validate.stream = s.stream := by
  rcases s.validate_cases with ⟨-, e⟩ | ⟨-, e⟩ <;> rw [e] <;> exact ⟨rfl, rfl⟩

/-- A command other than SRESET changes nothing of the framer but FSTATE at the issue of a FRAME.STEP. -/
theorem command_quiet (s : State) {i : Instr} (hi : i ≠ .sreset) :
    SameFramer s (s.unlessBusy (commandEffect i)) ∧ (s.unlessBusy (commandEffect i)).fb = s.fb ∧
    (s.unlessBusy (commandEffect i)).stream = s.stream ∧
    ((s.unlessBusy (commandEffect i)).fstate = s.fstate ∨
      (s.fstate = .awaitingFrame ∧ (s.unlessBusy (commandEffect i)).fstate = .readPending)) ∧
    (s.stDone = true ∧ s.stPass = true →
      (s.unlessBusy (commandEffect i)).stDone = true ∧ (s.unlessBusy (commandEffect i)).stPass = true) := by
  rcases s.unlessBusy_cases (commandEffect i) with ⟨-, e⟩ | ⟨hb, e⟩ <;> rw [e]
  · exact ⟨⟨rfl, rfl, rfl, rfl, rfl, rfl, rfl, rfl, rfl⟩, rfl, rfl, .inl rfl, id⟩
  · cases i with
    | sreset => exact absurd rfl hi
    | selftest =>
      exact ⟨⟨rfl, rfl, rfl, rfl, rfl, rfl, rfl, rfl, rfl⟩, rfl, rfl, .inl rfl, fun _ => ⟨rfl, selfTestPasses_true⟩⟩
    | frameStep =>
      simp only [commandEffect]
      split
      · exact ⟨⟨rfl, rfl, rfl, rfl, rfl, rfl, rfl, rfl, rfl⟩, rfl, rfl, .inl rfl, id⟩
      · next ht =>
        have hf : s.fstate = .awaitingFrame := (s.not_busy_iff.mp hb).resolve_right ht
        exact ⟨⟨rfl, rfl, rfl, rfl, rfl, rfl, rfl, rfl, rfl⟩, rfl, rfl, .inr ⟨hf, rfl⟩, id⟩
    | nop => exact ⟨⟨rfl, rfl, rfl, rfl, rfl, rfl, rfl, rfl, rfl⟩, rfl, rfl, .inl rfl, id⟩
    | crcInit => exact ⟨⟨rfl, rfl, rfl, rfl, rfl, rfl, rfl, rfl, rfl⟩, rfl, rfl, .inl rfl, id⟩
    | crcUpd b => exact ⟨⟨rfl, rfl, rfl, rfl, rfl, rfl, rfl, rfl, rfl⟩, rfl, rfl, .inl rfl, id⟩

/-- Every step that answers a next state is of one of the kinds. -/
theorem step_kinds {s t : State} (h : step s = .next t) : StepKind s t := by
  cases step_cases h with
  | idleValidate he hf =>
    obtain ⟨o, hc, ho⟩ := committed_validate s
    exact .validated o hf hc ho (validate_outside s).1 (validate_outside s).2
  | validate rest he hf =>
    obtain ⟨o, hc, ho⟩ := committed_validate (s.setEvents rest)
    exact .validated o hf ⟨hc.1, hc.2, hc.3, hc.4, hc.5, hc.6, hc.7, hc.8, hc.9, hc.10, hc.11, hc.12, hc.13⟩ ho
      (validate_outside _).1 (validate_outside _).2
  | read rest r he => exact .quiet ⟨rfl, rfl, rfl, rfl, rfl, rfl, rfl, rfl, rfl⟩ rfl (.inl rfl) id (.inl rfl)
  | busError rest a off he => exact .quiet ⟨rfl, rfl, rfl, rfl, rfl, rfl, rfl, rfl, rfl⟩ rfl (.inl rfl) id (.inl rfl)
  | command rest v i he hd =>
    by_cases hi : i = .sreset
    · subst hi
      rcases (s.setEvents rest).unlessBusy_cases (commandEffect .sreset) with ⟨-, e⟩ | ⟨-, e⟩ <;> rw [e]
      · exact .quiet ⟨rfl, rfl, rfl, rfl, rfl, rfl, rfl, rfl, rfl⟩ rfl (.inl rfl) id (.inl rfl)
      · exact .reset (s.setEvents rest) ⟨rest, .inr ⟨v, he, hd⟩⟩ rfl rfl rfl (.inl rfl)
    · obtain ⟨hsame, hfb, hs, hf, hst⟩ := command_quiet (s.setEvents rest) hi
      exact .quiet ⟨hsame.1, hsame.2, hsame.3, hsame.4, hsame.5, hsame.6, hsame.7, hsame.8, hsame.9⟩ hfb hf hst (.inl hs)
  | illegalWord rest v op he hd =>
    rcases (s.setEvents rest).unlessBusy_cases (fun u => u.raise .illegalCommand) with ⟨-, e⟩ | ⟨-, e⟩ <;> rw [e] <;>
      exact .quiet ⟨rfl, rfl, rfl, rfl, rfl, rfl, rfl, rfl, rfl⟩ rfl (.inl rfl) id (.inl rfl)
  | clear rest v he => exact .quiet ⟨rfl, rfl, rfl, rfl, rfl, rfl, rfl, rfl, rfl⟩ rfl (.inl rfl) id (.inl rfl)
  | ignoredWrite rest r v hr he =>
    exact .quiet ⟨rfl, rfl, rfl, rfl, rfl, rfl, rfl, rfl, rfl⟩ rfl (.inl rfl) id (.inl rfl)
  | deliver rest n hn he hf =>
    have hlen : (s.stream.take n).length ≤ 32 := by rw [List.length_take]; omega
    rcases ((s.setEvents rest).setStream (s.stream.drop n)).takeBytes_cases hlen with ⟨-, e⟩ | ⟨h1, e⟩ | ⟨h1, h2, e⟩ <;>
      rw [e]
    · exact .terminal .endOfStream .endOfStream rest ⟨_, he⟩ hf
        ⟨rfl, rfl, rfl, rfl, rfl, rfl, rfl, rfl, .inr ⟨by decide, rfl, rfl⟩, rfl, rfl, rfl, rfl, rfl⟩
        (.inl ⟨rfl, rfl⟩) ⟨_, rfl⟩ ⟨n, hn, rfl⟩
    · exact .load rest _ ⟨n, he⟩ ⟨rfl, rfl, rfl, rfl, rfl, rfl, rfl, rfl, rfl⟩ hf rfl h1 rfl ⟨rfl, rfl, rfl, rfl, rfl⟩
        ⟨n, hn, rfl⟩
    · exact .terminal .shortFrame (.shortFrame (s.stream.take n).length) rest ⟨_, he⟩ hf
        ⟨rfl, rfl, rfl, rfl, rfl, rfl, rfl, rfl, .inr ⟨by simp [FrameOutcome.code], rfl, rfl⟩, rfl, rfl, rfl, rfl, rfl⟩
        (.inr (.inr ⟨_, h1, h2, rfl, rfl⟩)) ⟨_, rfl⟩ ⟨n, hn, rfl⟩
  | fail rest n hn he hf =>
    exact .terminal .sourceError .sourceUnavailable rest ⟨_, he⟩ hf
      ⟨rfl, rfl, rfl, rfl, rfl, rfl, rfl, rfl, .inr ⟨by decide, rfl, rfl⟩, rfl, rfl, rfl, rfl, rfl⟩
      (.inr (.inl ⟨rfl, rfl⟩)) ⟨_, rfl⟩ ⟨n, hn, rfl⟩
  | late rest n he ha => exact .quiet ⟨rfl, rfl, rfl, rfl, rfl, rfl, rfl, rfl, rfl⟩ rfl (.inl rfl) id (.inl rfl)
  | reset rest a n hn he =>
    refine .reset ((s.setEvents rest).setStream
      (if s.requestOutstanding then s.stream.drop n else s.stream)) ⟨rest, .inl ⟨a, n, he⟩⟩ rfl rfl rfl ?_
    by_cases hq : s.requestOutstanding = true
    · exact .inr ⟨s.requestOutstanding_iff.mp hq, n, hn, by
        show (if s.requestOutstanding = true then _ else _) = _
        rw [if_pos hq]; rfl⟩
    · exact .inl (by
        show (if s.requestOutstanding = true then _ else _) = _
        rw [if_neg hq]; rfl)
  | attach rest bytes he =>
    exact .quiet ⟨rfl, rfl, rfl, rfl, rfl, rfl, rfl, rfl, rfl⟩ rfl (.inl rfl) id (.inr ⟨bytes, rest, he⟩)

end Sys2Proof.Machine
end

