-- ==== Sys2Proof/Laws/PerInstr.lean ====
section
/-! SUPPORT. What holds of each command as syntax: family `AssembledWord`. -/

namespace Sys2Proof.Laws.AssembledWord

/-- The word a command assembles to decodes to it, and its bits 31 to 16 are 0 (30_encoding.md R104). -/
def Statement (i : Instr) : Prop := decode (encode i) = .ok i ∧ (encode i).extractLsb' 16 16 = 0

theorem nop : Statement .nop := by unfold Statement; exact ⟨rfl, rfl⟩

theorem crcInit : Statement .crcInit := by unfold Statement; exact ⟨rfl, rfl⟩

theorem crcUpd (imm8 : Byte) : Statement (.crcUpd imm8) := by
  have h : cmdOp (encode (.crcUpd imm8)) = 2 := by
    ext i hi; interval_cases i <;> simp [cmdOp, encode]
  have h2 : cmdImm8 (encode (.crcUpd imm8)) = imm8 := by
    ext i hi; interval_cases i <;> simp [cmdImm8, encode]
  have h3 : (encode (.crcUpd imm8)).extractLsb' 16 16 = 0 := by
    ext i hi; interval_cases i <;> simp [encode]
  refine ⟨?_, h3⟩
  unfold decode
  rw [h, h2]
  rfl

theorem selftest : Statement .selftest := by unfold Statement; exact ⟨rfl, rfl⟩

theorem frameStep : Statement .frameStep := by unfold Statement; exact ⟨rfl, rfl⟩

theorem sreset : Statement .sreset := by unfold Statement; exact ⟨rfl, rfl⟩

end Sys2Proof.Laws.AssembledWord
end

