-- ==== Sys2Proof/Tests/Slice0.lean ====
section
/-! SUPPORT. Small tests, their expected results taken from the spec's own vectors (95_test_vectors.md, named at each
test), and a concrete witness for the hypotheses of every statement. -/

namespace Sys2Proof.Tests

-- One test after another: many at once take more threads than the checks allow.
set_option Elab.async false

open Sys2Proof Sys2Proof.Machine

/-! ### Helpers -/

/-- Does the step answer a next state with the property? -/
def ends (o : Host.Outcome State Fault Refusal) (p : State → Bool) : Bool :=
  match o with
  | .next t => p t
  | .fault _ => false
  | .refused _ => false

/-- The state after reset with the framer state, CRC and the events given. -/
def at_ (f : FrameState) (crc : Byte) (events : List Event) : State :=
  { State.reset with fstate := f, crc := crc, events := events }

/-- A host's read and write of a whole register. -/
def rd (r : Reg) : Event := .host (.read 32 r.offset)
def wr (r : Reg) (v : Word) : Event := .host (.write 32 r.offset v)

/-- Did the port answer the value? -/
def answers (t : State) (v : Word) : Bool := t.response == .data v

/-- Frames of 95_test_vectors.md section 4.1. -/
def frameA : List Byte :=
  [0x00, 0x68, 0xE5, 0xCF, 0x8B, 0x01, 0x00, 0x00, 0x00, 0x00, 0x17, 0x42, 0x00, 0x00, 0xF5, 0xC2] ++
  [0x00, 0x00, 0x78, 0x41, 0x00, 0x00, 0xAA, 0x41, 0x34, 0x12, 0x57, 0x07, 0x00, 0x00, 0x00, 0x62]
def frameBadB : List Byte :=
  [0xF4, 0x69, 0xE5, 0xCF, 0x8B, 0x01, 0x00, 0x00, 0x00, 0x40, 0x16, 0x42, 0x00, 0x80, 0xF4, 0xC2] ++
  [0x00, 0x00, 0x80, 0x41, 0x00, 0x00, 0xB0, 0xC0, 0x34, 0x12, 0x56, 0x03, 0x5A, 0x00, 0x00, 0x63]
def frameC : List Byte :=
  [0xE8, 0x6B, 0xE5, 0xCF, 0x8B, 0x01, 0x00, 0x00, 0x01, 0x00, 0xC0, 0x7F, 0x00, 0x00, 0x00, 0x80] ++
  [0x01, 0x00, 0x00, 0x00, 0x00, 0x00, 0x80, 0xFF, 0xFF, 0xFF, 0xFF, 0xF8, 0xFF, 0xAA, 0x55, 0x62]

/-- Record A of 95_test_vectors.md section 3. -/
def recordA : Record :=
  ⟨0x0000018BCFE56800, 0x42170000, 0xC2F50000, 0x41780000, 0x41AA0000, 0x1234, 0x57, 0x07, 0x00⟩

/-- Record C of 95_test_vectors.md section 3. -/
def recordC : Record :=
  ⟨0x0000018BCFE56BE8, 0x7FC00001, 0x80000000, 0x00000001, 0xFF800000, 0xFFFF, 0xFF, 0xF8, 0xFF⟩

/-- A frame in FB with its validation pending. -/
def loaded (frame : List Byte) (events : List Event) : State :=
  { at_ .haveCompleteFrame 0x97 events with fb := Memory.store [] 0 frame }

/-- A request outstanding over a source that still holds the bytes. -/
def pending (bytes : List Byte) (events : List Event) : State :=
  { at_ .readPending 0x97 events with stream := bytes }

/-! ### Well-formed events: the checks, each refusing an ill-formed term -/

theorem test_deliver_33_is_ill_formed : (Event.source (.deliver 33)).wellFormed = false := by decide
theorem test_fail_33_is_ill_formed : (Event.source (.fail 33)).wellFormed = false := by decide
theorem test_reset_consuming_33_is_ill_formed : (Event.resetInput none 33).wellFormed = false := by decide
theorem test_32_bytes_are_well_formed :
    (Event.source (.deliver 32)).wellFormed = true ∧ (Event.source (.fail 32)).wellFormed = true ∧
    (Event.resetInput none 32).wellFormed = true := by decide

/-! ### Decoding: words written out from 30_encoding.md R90, R91, R104, R106; vectors V7, V8 -/

theorem test_decode_nop : decode 0b00000000000000000000000000000000 = .ok .nop := by decide
theorem test_decode_crcInit : decode 0b00000000000000000000000000000001 = .ok .crcInit := by decide
theorem test_decode_crcUpd : decode 0b00000000000000000011000100000010 = .ok (.crcUpd 0x31) := by decide
theorem test_decode_selftest : decode 0b00000000000000000000000000000011 = .ok .selftest := by decide
theorem test_decode_frameStep : decode 0b00000000000000000000000000000100 = .ok .frameStep := by decide
theorem test_decode_sreset : decode 0b00000000000000000000000000000101 = .ok .sreset := by decide
theorem test_decode_ignored_bits :
    decode 0xFFFF2A02 = .ok (.crcUpd 0x2A) ∧ decode 0x00003101 = .ok .crcInit ∧ decode 0xABCD0004 = .ok .frameStep := by
  decide
theorem test_decode_illegal :
    decode 0x00000006 = .error (.illegalOpcode 0x06) ∧ decode 0x000000FF = .error (.illegalOpcode 0xFF) := by decide
theorem test_decode_bytes :
    decodeBytes [0x02, 0x31, 0x00, 0x00] = .ok (.crcUpd 0x31) ∧ decodeBytes [0x02, 0x31] = .error (.notOneWord 2) ∧
    decodeBytes [] = .error (.notOneWord 0) := by decide
theorem test_decodeTableWord :
    decodeTableWord 32 0x00003102 = some (.crcUpd 0x31) ∧ decodeTableWord 8 0x04 = some .frameStep ∧
    decodeTableWord 32 0x00000006 = none := by decide
theorem test_encode :
    encode (.crcUpd 0xFF) = 0x0000FF02 ∧ encode .nop = 0 ∧ encode .sreset = 0x00000005 := by decide

/-! ### Commands: 95_test_vectors.md section 2.4 and section 5 -/

/-- E19. -/
theorem test_nop_runs : ends (step ((at_ .endOfStream 0x97 []).withFetchWord 32 0)) (fun t =>
    t.statusWord == 0x00000034 && t.crc == 0x97) = true := by decide

/-- 43_control.md R231: a NOP while busy sets OVR. -/
theorem test_nop_busy : ends (step ((pending [] []).withFetchWord 32 0)) (fun t =>
    t.statusWord == 0x00000139) = true := by decide

/-- V1. -/
theorem test_crcInit : ends (step ((at_ .awaitingFrame 0x5A []).withFetchWord 32 0x00000001)) (fun t =>
    t.crc == 0x00) = true := by decide

/-- E6. -/
theorem test_crcInit_busy : ends (step ((pending [] []).withFetchWord 32 0x00000001)) (fun t =>
    t.statusWord == 0x00000139 && t.crc == 0x97) = true := by decide

/-- V3. -/
theorem test_crcUpd : ends (step ((at_ .awaitingFrame 0x97 []).withFetchWord 32 0x00003202)) (fun t =>
    t.crc == 0x72) = true := by decide +kernel

/-- V7 and V11: high bits ignored, and allowed in a terminal state. -/
theorem test_crcUpd_terminal : ends (step ((at_ .endOfStream 0x00 []).withFetchWord 32 0xFFFF2A02)) (fun t =>
    t.crc == 0xD6) = true := by decide +kernel

/-- V10. -/
theorem test_selftest : ends (step ((at_ .awaitingFrame 0x97 []).withFetchWord 32 0x00000003)) (fun t =>
    t.crc == 0x97 && t.statusWord == 0x00000030) = true := by decide +kernel

/-- Section 4.4, second row. -/
theorem test_frameStep : ends (step ((at_ .awaitingFrame 0x00 []).withFetchWord 32 0x00000004)) (fun t =>
    t.statusWord == 0x00000039 && t.requestOutstanding && t.outcomeWord == 0) = true := by decide

/-- E5. -/
theorem test_frameStep_terminal : ends (step ((at_ .endOfStream 0x00 []).withFetchWord 32 0x00000004)) (fun t =>
    t.statusWord == 0x000000B4 && !t.requestOutstanding && t.out == []) = true := by decide

/-- The example of 43_control.md R232. -/
theorem test_sreset : ends (step (({ at_ .endOfStream 0xD6 [] with cntTotal := 3, recValid := true } : State).withFetchWord
    32 0x00000005)) (fun t => t.statusWord == 0x00000030 && t.cntTotal == 0 && t.crc == 0) = true := by decide +kernel

/-- E8. -/
theorem test_sreset_busy : ends (step ((pending [] []).withFetchWord 32 0x00000005)) (fun t =>
    t.statusWord == 0x00000139) = true := by decide

/-! ### The checksum: 95_test_vectors.md sections 2.1 to 2.3 -/

theorem test_crcStep_table :
    crcStep 0 0x01 = 0x07 ∧ crcStep 0 0x80 = 0x89 ∧ crcStep 0 0xFF = 0xF3 ∧ crcStep 0 0x5B = 0x86 := by decide +kernel
theorem test_compute_vectors : compute [] = 0x00 ∧ compute selfTestVector = 0xF4 ∧
    compute (selfTestVector ++ [0xF4]) = 0x00 ∧ compute [0x00, 0x01, 0x02, 0x03] = 0x48 := by decide +kernel
theorem test_compute_frame_A : compute frameA = 0x00 ∧ compute (frameA.take 31) = 0x62 := by decide +kernel

/-! ### The decoder: 95_test_vectors.md section 3, 41_decoder.md R172 -/

theorem test_decode_A : decodePayload (frameA.take 31) = recordA := by decide +kernel
theorem test_decode_C : decodePayload (frameC.take 31) = recordC := by decide +kernel
theorem test_encode_C : wireFrame recordC 0xAA 0x55 = frameC := by decide +kernel
theorem test_decode_S4 :
    decodePayload ([0x00, 0x01, 0x02, 0x03] ++ List.replicate 27 0) = ⟨0x03020100, 0, 0, 0, 0, 0, 0, 0, 0⟩ := by
  decide +kernel
theorem test_predicates_A_C :
    systemOk 0x07 = true ∧ gpsLock 0x07 = true ∧ payloadActive 0x07 = true ∧ payloadActive 0x03 = false ∧
    systemOk 0xF8 = false ∧ gpsLock 0xF8 = false ∧ payloadActive 0xF8 = false := by decide

/-! ### The framer: 95_test_vectors.md sections 4.2 to 4.4 -/

/-- Section 4.4, third row. -/
theorem test_answer_loads_frame : ends (step (pending (frameA ++ [0xFF]) [.source (.deliver 32)])) (fun t =>
    t.statusWord == 0x0000003A && t.frame == frameA && t.stream == [0xFF] && t.cntTotal == 0) = true := by decide +kernel

/-- Section 4.4, last row. -/
theorem test_validate_A : ends (step (loaded frameA [.core])) (fun t => t.statusWord == 0x00000070 &&
    t.outcomeWord == 0x00000001 && t.record == recordA && t.cntGood == 1 && t.crc == 0x97 &&
    t.out == [.decoded recordA]) = true := by decide +kernel

/-- F8's second frame, and the step that needs no input. -/
theorem test_validate_bad_B : ends (step (loaded frameBadB [])) (fun t => t.statusWord == 0x00000030 &&
    t.outcomeWord == 0x00000002 && t.cntTotal == 1 && t.cntBadCrc == 1 && t.out == [.checksumMismatch]) = true := by
  decide +kernel

/-- F1. -/
theorem test_empty_answer : ends (step (pending [] [.source (.deliver 32)])) (fun t => t.statusWord == 0x00000034 &&
    t.outcomeWord == 0x00000004 && t.cntShort == 0 && t.out == [.endOfStream]) = true := by decide +kernel

/-- F2. -/
theorem test_short_answer : ends (step (pending [0x01, 0x02, 0x03, 0x04, 0x05] [.source (.deliver 32)])) (fun t =>
    t.statusWord == 0x00000033 && t.outcomeWord == 0x00000503 && t.cntShort == 1 && t.cntTotal == 0 &&
    t.out == [.shortFrame 5]) = true := by decide +kernel

/-- F3. -/
theorem test_short_answer_31 : ends (step (pending (frameA.take 31) [.source (.deliver 32)])) (fun t =>
    t.outcomeWord == 0x00001F03) = true := by decide +kernel

/-- F16. -/
theorem test_failed_answer : ends (step (pending frameA [.source (.fail 0)])) (fun t =>
    t.statusWord == 0x00000035 && t.outcomeWord == 0x00000005 && t.out == [.sourceUnavailable]) = true := by
  decide +kernel

/-- F18. -/
theorem test_no_answer_is_stuck : step (pending frameA []) = .refused .sourceSilent := by rfl

/-! ### The host port: 95_test_vectors.md section 5 -/

/-- E1 and E2. -/
theorem test_read_status_and_cmd : ends (step (at_ .awaitingFrame 0 [rd .status])) (fun t => answers t 0x00000030) = true ∧
    ends (step (at_ .awaitingFrame 0 [rd .cmd])) (fun t => answers t 0) = true := by decide

/-- E3 and E4. -/
theorem test_illegal_opcode : ends (step (at_ .awaitingFrame 0 [wr .cmd 0x06])) (fun t => t.statusWord == 0xB0) = true ∧
    ends (step (at_ .awaitingFrame 0 [wr .cmd 0xFF])) (fun t => t.statusWord == 0xB0) = true := by decide

/-- E7. -/
theorem test_illegal_opcode_busy : ends (step (pending [] [wr .cmd 0x06])) (fun t => t.statusWord == 0x139) = true := by
  decide

/-- E9 to E11. -/
theorem test_clear_errors :
    ends (step ({ pending [] [wr .status 0x100] with ovr := true })) (fun t => t.statusWord == 0x39) = true ∧
    ends (step ({ at_ .endOfStream 0 [wr .status 0x180] with ovr := true, illcmd := true }))
      (fun t => t.statusWord == 0x34) = true ∧
    ends (step ({ at_ .awaitingFrame 0 [wr .status 0x7F] with illcmd := true })) (fun t => t.statusWord == 0xB0) = true := by
  decide

/-- E12 to E14. -/
theorem test_bus_errors :
    ends (step (at_ .awaitingFrame 0 [.host (.read 32 0x48)])) (fun t => t.response == .error 0x48) = true ∧
    ends (step (at_ .awaitingFrame 0 [.host (.read 32 0x0A)])) (fun t => t.response == .error 0x0A) = true ∧
    ends (step (at_ .awaitingFrame 0 [.host (.read 16 0x04)])) (fun t => t.response == .error 0x04) = true := by decide

/-- E15 and E16. -/
theorem test_read_only_registers :
    ends (step (at_ .awaitingFrame 0x97 [wr .crcr 0xFF])) (fun t => t.crc == 0x97 && t.response == .written) = true ∧
    ends (step (at_ .awaitingFrame 0 [wr .cntTotal 5])) (fun t => t.cntTotal == 0) = true := by decide

/-- Section 3's columns A and C, as registers. -/
theorem test_record_registers :
    ({ State.reset with record := recordA, recValid := true } : State).readRegister .recTsLo = 0xCFE56800 ∧
    ({ State.reset with record := recordA, recValid := true } : State).readRegister .recTsHi = 0x0000018B ∧
    ({ State.reset with record := recordC, recValid := true } : State).readRegister .recSensor = 0x0000FFFF ∧
    ({ State.reset with record := recordC, recValid := true } : State).readRegister .recStatus = 0x000000F8 := by decide

/-- E21: the reset input while a request is outstanding, and the late answer. -/
theorem test_reset_input : ends (step (pending frameA [.resetInput none 32])) (fun t => t.statusWord == 0x30 &&
    t.abandoned == 1 && t.stream == [] && t.out == []) = true := by decide +kernel
theorem test_late_answer : ends (step ({ pending [] [.lateAnswer] with abandoned := 1 })) (fun t =>
    t.abandoned == 0 && t.statusWord == 0x39) = true := by decide

/-! ### Witnesses: concrete states and operands that meet the hypotheses of the statements -/

theorem witness_DecodeMatchesTableRows :
    decode 0xABCD0004 = .ok .frameStep ∧ decode 0xFFFF2A02 = .ok (.crcUpd 0x2A) ∧
    6 ≤ (0x00000006 : Word).toNat % 256 ∧ 6 ≤ (0xFFFFFFFF : Word).toNat % 256 := by decide

theorem witness_IgnoredBitsHaveNoEffect :
    (0xFFFF2A02 : Word).toNat % 65536 = (0x00002A02 : Word).toNat % 65536 ∧
    (0x00003101 : Word).toNat % 256 = (0x00000001 : Word).toNat % 256 ∧ (0x00003101 : Word).toNat % 256 ≠ 2 ∧
    (0xFFFFFF06 : Word).toNat % 256 = (0x00000006 : Word).toNat % 256 ∧ (0x00000006 : Word).toNat % 256 ≠ 2 := by decide

theorem witness_StepRunsDecodedCommand :
    (pending [] [commandWrite 0xFFFF2A02]).events = commandWrite 0xFFFF2A02 :: [] ∧
    decode 0xFFFF2A02 = .ok (.crcUpd 0x2A) ∧ decode (BitVec.ofNat 32 0x104) = .ok .frameStep := by decide

theorem witness_NopChangesNothing : (0xABCDEF00 : Word).toNat % 256 = 0 ∧
    (at_ .awaitingFrame 0 []).busy = false ∧ (at_ .sourceError 0 []).busy = false ∧
    (pending [] []).busy = true ∧ (loaded frameA []).busy = true := by decide

theorem witness_CrcInitClearsAccumulator : (0x00003101 : Word).toNat % 256 = 1 ∧
    (at_ .awaitingFrame 0x5A []).busy = false ∧ (at_ .shortFrame 0x5A []).busy = false ∧
    (pending [] []).busy = true ∧ (loaded frameA []).busy = true := by decide

theorem witness_CrcUpdFoldsOneByte : (0xFFFF2A02 : Word).toNat % 256 = 2 ∧
    (at_ .awaitingFrame 0x97 []).busy = false ∧ (at_ .endOfStream 0x97 []).busy = false ∧
    (pending [] []).busy = true ∧ (loaded frameA []).busy = true := by decide

theorem witness_SelftestSetsDoneAndPass : (0x00000003 : Word).toNat % 256 = 3 ∧
    ({ at_ .endOfStream 0x97 [] with stDone := false, stPass := false } : State).busy = false ∧
    (pending [] []).busy = true ∧ (at_ .awaitingFrame 0 []).fstate = .awaitingFrame := by decide

theorem witness_FrameStepIssuesRequest :
    (0xABCD0004 : Word).toNat % 256 = 4 ∧ (at_ .awaitingFrame 0x97 []).fstate = .awaitingFrame := by decide

theorem witness_FrameStepRefusedWhenTerminal : (at_ .shortFrame 0 []).fstate = .shortFrame ∧
    (at_ .endOfStream 0 []).fstate = .endOfStream ∧ (at_ .sourceError 0 []).fstate = .sourceError := by decide

theorem witness_SresetRestoresResetValues : (0xFFFFFF05 : Word).toNat % 256 = 5 ∧ (pending [] []).busy = true ∧
    (at_ .endOfStream 0xD6 []).busy = false ∧ Instr.frameStep ≠ .sreset ∧
    (at_ .endOfStream 0xD6 []).fstate.terminal = true ∧
    exec .frameStep (at_ .endOfStream 0xD6 []) = .next { at_ .endOfStream 0xD6 [] with illcmd := true } :=
  ⟨by decide, by decide, by decide, by decide, by decide, rfl⟩

theorem witness_BusyDropsEveryCommand : (pending [] [commandWrite 5]).fstate = .readPending ∧
    (pending [] [commandWrite 5]).events = commandWrite 5 :: [] ∧
    (loaded frameA [commandWrite 0xFF]).fstate = .haveCompleteFrame ∧
    (loaded frameA [commandWrite 0xFF]).events = commandWrite 0xFF :: [] := by decide

theorem witness_IllegalOpcodeSetsIllcmd :
    (at_ .awaitingFrame 0 [commandWrite 6]).busy = false ∧ 6 ≤ (6 : Word).toNat % 256 ∧
    (at_ .awaitingFrame 0 [commandWrite 6]).events = commandWrite 6 :: [] ∧
    (at_ .endOfStream 0 [commandWrite 0xFF]).busy = false ∧ 6 ≤ (0xFF : Word).toNat % 256 ∧
    (at_ .endOfStream 0 [commandWrite 0xFF]).events = commandWrite 0xFF :: [] := by decide

theorem witness_ComputeLinearZeroResidue :
    ([0x31, 0x32] : List Byte).length = ([0x80, 0xFF] : List Byte).length ∧ frameA.length = 32 ∧
    frameValid frameA = true := by decide +kernel

theorem witness_SingleByteCorruptionDetected : (0x17 : Byte) ≠ 0x16 ∧
    ([] ++ (0x00 : Byte) :: frameA.drop 1).length = 32 ∧ frameValid ([] ++ (0x00 : Byte) :: frameA.drop 1) = true ∧
    (frameA.take 31 ++ (0x62 : Byte) :: []).length = 32 ∧ frameValid (frameA.take 31 ++ (0x62 : Byte) :: []) = true := by
  decide +kernel

theorem witness_AccumulatorTracksCompute :
    (at_ .endOfStream 0x5A [commandWrite (encode .crcInit), commandWrite (encode (.crcUpd 0x31)), rd .crcr]).busy = false ∧
    (at_ .endOfStream 0x5A [commandWrite (encode .crcInit), commandWrite (encode (.crcUpd 0x31)), rd .crcr]).events =
      commandWrite (encode .crcInit) :: (([0x31] : List Byte).map fun b => commandWrite (encode (.crcUpd b))) ++
        [rd .crcr] := by decide

theorem witness_DecodedFieldsAreLittleEndian : (frameC.take 31).length = 31 := by decide

theorem witness_RecordRoundTrip : (frameA.take 31).length = 31 ∧ (List.replicate 31 (0xFF : Byte)).length = 31 := by decide

theorem witness_DecodeIgnoresUnusedBytes : (frameC.take 31).length = 31 ∧
    (frameC.take 29 ++ [0x00, 0x00]).length = 31 ∧
    ∀ i, i ≤ 28 → (frameC.take 31).getD i 0 = (frameC.take 29 ++ [0x00, 0x00]).getD i 0 :=
  ⟨by decide, by decide, fun i hi => by interval_cases i <;> rfl⟩

/-- F13 and K15: valid frames that differ only in bytes 29 to 31. -/
theorem witness_UnusedBytesAreChecksummed : frameA.length = 32 ∧ frameValid frameA = true ∧
    (0x11 : Byte) ≠ frameA.getD 29 0 ∧ (0x11 : Byte) ≠ frameA.getD 30 0 ∧
    (frameA.take 29 ++ [0x11, 0x00, 0x20]).length = 32 ∧ frameValid (frameA.take 29 ++ [0x11, 0x00, 0x20]) = true ∧
    ∀ i, i ≤ 28 → frameA.getD i 0 = (frameA.take 29 ++ [0x11, 0x00, 0x20]).getD i 0 :=
  ⟨by decide, by decide +kernel, by decide, by decide, by decide, by decide +kernel,
    fun i hi => by interval_cases i <;> rfl⟩

theorem witness_StatusPredicatesReadOneBit :
    ({ State.reset with record := recordA, recValid := true } : State).recValid = true := by decide

/-- An empty answer: of no bytes, and of up to 32 from a source that has none. -/
theorem witness_EmptyAnswerEndsStream : (pending frameA [.source (.deliver 0)]).fstate = .readPending ∧
    (pending frameA [.source (.deliver 0)]).events = .source (.deliver 0) :: [] ∧
    (pending frameA [.source (.deliver 0)]).stream.take 0 = [] ∧
    (pending [] [.source (.deliver 32)]).fstate = .readPending ∧
    (pending [] [.source (.deliver 32)]).events = .source (.deliver 32) :: [] ∧ 32 ≤ 32 ∧
    (pending [] [.source (.deliver 32)]).stream.take 32 = [] := by decide

/-- Short answers of 1 and of 31 bytes. -/
theorem witness_ShortAnswerEndsStream : (pending frameA [.source (.deliver 1)]).fstate = .readPending ∧
    (pending frameA [.source (.deliver 1)]).events = .source (.deliver 1) :: [] ∧ 1 ≤ 32 ∧
    ((pending frameA [.source (.deliver 1)]).stream.take 1).length = 1 ∧
    (pending (frameA.take 31) [.source (.deliver 32)]).fstate = .readPending ∧
    (pending (frameA.take 31) [.source (.deliver 32)]).events = .source (.deliver 32) :: [] ∧
    ((pending (frameA.take 31) [.source (.deliver 32)]).stream.take 32).length = 31 := by decide

theorem witness_FullAnswerLoadsFrame : (pending frameA [.source (.deliver 32)]).fstate = .readPending ∧
    (pending frameA [.source (.deliver 32)]).events = .source (.deliver 32) :: [] ∧
    32 ≤ (pending frameA [.source (.deliver 32)]).stream.length ∧
    (pending frameA [.source (.deliver 32)]).fb.wf = true := by decide

/-- A failure that comes with no bytes and one that comes with 32. -/
theorem witness_FailedAnswerAborts : (pending frameA [.source (.fail 0)]).fstate = .readPending ∧
    (pending frameA [.source (.fail 0)]).events = .source (.fail 0) :: [] ∧
    (pending frameA [.source (.fail 32)]).events = .source (.fail 32) :: [] ∧ 32 ≤ 32 := by decide

theorem witness_MismatchCommitSkipsFrame : (loaded frameBadB [.core]).fstate = .haveCompleteFrame ∧
    (loaded frameBadB [.core]).events = .core :: [] ∧ (loaded frameBadB []).events = [] ∧
    compute ((loaded frameBadB [.core]).fb.load 0 31) ≠ (loaded frameBadB [.core]).fb.read 31 := by decide +kernel

theorem witness_MatchCommitDecodesFrame : (loaded frameA [.core]).fstate = .haveCompleteFrame ∧
    (loaded frameA [.core]).events = .core :: [] ∧ (loaded frameA []).events = [] ∧
    compute ((loaded frameA [.core]).fb.load 0 31) = (loaded frameA [.core]).fb.read 31 := by decide +kernel

theorem witness_ValidateNeedsNoInput : (loaded frameA [.core, rd .status]).fstate = .haveCompleteFrame ∧
    (loaded frameA [.core, rd .status]).events = .core :: [rd .status] := by decide

/-- No reset is next in a state whose next event is neither the reset input nor a command write of OP 0x05. -/
theorem not_resetNext_source (s : State) (a : SourceAnswer) (rest : List Event) (h : s.events = .source a :: rest) :
    ¬ s.resetNext := by
  rintro ⟨r, ⟨x, n, e⟩ | ⟨v, e, -⟩⟩ <;> rw [h] at e <;> cases e

/-- A commit of a short tail, for the statements about every step that is no reset. -/
theorem witness_OneOutcomePerCommit : (∃ t, step (pending [0x01] [.source (.deliver 32)]) = .next t) ∧
    ¬ (pending [0x01] [.source (.deliver 32)]).resetNext ∧ (∃ t, step (at_ .awaitingFrame 0 [rd .status]) = .next t) ∧
    (∃ t, step (at_ .awaitingFrame 0 [commandWrite 5]) = .next t) :=
  ⟨⟨_, rfl⟩, not_resetNext_source _ _ _ rfl, ⟨_, rfl⟩, ⟨_, rfl⟩⟩

theorem witness_TallyCountsOutcomes : (∃ t, step (pending [0x01] [.source (.deliver 32)]) = .next t) ∧
    ¬ (pending [0x01] [.source (.deliver 32)]).resetNext := ⟨⟨_, rfl⟩, not_resetNext_source _ _ _ rfl⟩

/-- A counter at its last value, for each counter, and a step on which it counts. -/
theorem witness_CountersWrapSilently :
    ends (step { loaded frameA [] with cntTotal := 0xFFFFFFFF, cntGood := 0xFFFFFFFF })
      (fun t => t.cntTotal == 0 && t.cntGood == 0) = true ∧ ¬ (loaded frameA []).resetNext ∧
    ends (step { loaded frameBadB [] with cntBadCrc := 0xFFFFFFFF }) (fun t => t.cntBadCrc == 0) = true ∧
    ¬ (loaded frameBadB []).resetNext ∧
    ends (step { pending [0x01] [.source (.deliver 32)] with cntShort := 0xFFFFFFFF }) (fun t => t.cntShort == 0) = true ∧
    ¬ ({ pending [0x01] [.source (.deliver 32)] with cntShort := 0xFFFFFFFF } : State).resetNext := by
  refine ⟨by decide +kernel, ?_, by decide +kernel, ?_, by decide +kernel, not_resetNext_source _ _ _ rfl⟩ <;>
    rintro ⟨r, ⟨x, n, e⟩ | ⟨v, e, -⟩⟩ <;> cases e

theorem witness_FrameOutcomeIsolated :
    ({ at_ .awaitingFrame 0x97 (frameNext ++ [rd .status]) with stream := frameBadB ++ frameC } : State).fstate =
      .awaitingFrame ∧
    ({ at_ .awaitingFrame 0x97 (frameNext ++ [rd .status]) with stream := frameBadB ++ frameC } : State).fb.wf = true ∧
    frameBadB.length = 32 ∧
    ({ at_ .awaitingFrame 0x97 (frameNext ++ [rd .status]) with stream := frameBadB ++ frameC } : State).stream =
      frameBadB ++ frameC ∧
    ({ at_ .awaitingFrame 0x97 (frameNext ++ [rd .status]) with stream := frameBadB ++ frameC } : State).events =
      frameNext ++ [rd .status] := by decide

/-- F6's shape: one frame and a rest of 31 bytes; and F1's: no frame and no rest. -/
theorem witness_StreamLaw :
    ({ at_ .awaitingFrame 0 (frameRun 1) with stream := frameA ++ frameC.take 31 } : State).stream.length = 32 * 1 + 31 ∧
    31 < 32 ∧ ({ at_ .awaitingFrame 0 (frameRun 1) with stream := frameA ++ frameC.take 31 } : State).events =
      frameRun 1 ++ [] ∧ (at_ .awaitingFrame 0 (frameRun 0)).stream.length = 32 * 0 + 0 ∧
    (at_ .awaitingFrame 0 (frameRun 0)).events = frameRun 0 ++ [] ∧
    (at_ .awaitingFrame 0 (frameRun 0)).fstate = .awaitingFrame ∧ (at_ .awaitingFrame 0 (frameRun 0)).fb.wf = true := by
  decide

theorem witness_SampleStreamRoundTrip :
    ({ at_ .awaitingFrame 0 (frameRun 1) with stream := wireFrame recordC 0xAA 0x55 } : State).stream =
      (([(recordC, 0xAA, 0x55)] : List (Record × Byte × Byte)).map fun x => wireFrame x.1 x.2.1 x.2.2).flatten ∧
    ({ at_ .awaitingFrame 0 (frameRun 1) with stream := wireFrame recordC 0xAA 0x55 } : State).events =
      frameRun ([(recordC, 0xAA, 0x55)] : List (Record × Byte × Byte)).length ++ [] ∧
    (at_ .awaitingFrame 0 (frameRun 1)).fstate = .awaitingFrame ∧ (at_ .awaitingFrame 0 (frameRun 1)).fb.wf = true := by
  decide +kernel

theorem witness_SourceConsumedInOrder : (∃ t, step (pending frameA [.source (.deliver 32)]) = .next t) ∧
    ∀ bytes rest, (pending frameA [.source (.deliver 32)]).events ≠ .attach bytes :: rest :=
  ⟨⟨_, rfl⟩, fun _ _ h => by cases h⟩

theorem witness_SilentSourceBlocks : (pending frameA []).fstate = .readPending ∧ (pending frameA []).events = [] ∧
    (pending frameA [rd .status]).fstate = .readPending ∧
    (pending frameA [rd .status]).events = .host (.read 32 0x04) :: [] := by decide

theorem witness_SourceContractBreachFaults :
    (at_ .awaitingFrame 0 [.source (.deliver 32)]).events = .source (.deliver 32) :: [] ∧
    (at_ .awaitingFrame 0 [.source (.deliver 32)]).fstate ≠ .readPending ∧ (SourceAnswer.deliver 32).count ≤ 32 ∧
    (pending frameA [.source (.fail 33)]).events = .source (.fail 33) :: [] ∧ 32 < (SourceAnswer.fail 33).count := by decide

/-- Each of the three conditions at its boundary: a read and a write at 0x46, of 31 bits, and at 0x48. -/
theorem witness_BadAccessIsBusError : 0x46 % 4 ≠ 0 ∧ 31 ≠ 32 ∧ 0x48 ≤ 0x48 ∧ 0x48 % 4 = 0 ∧
    (pending [] [.host (.read 32 0x46)]).events = .host (.read 32 0x46) :: [] ∧
    (pending [] [.host (.read 31 0x44)]).events = .host (.read 31 0x44) :: [] ∧
    (pending [] [.host (.write 32 0x48 1)]).events = .host (.write 32 0x48 1) :: [] := by decide

theorem witness_StatusRegisterFields : (pending [] [wr .status 0x180]).events = .host (.write 32 0x04 0x180) :: [] ∧
    (at_ .awaitingFrame 0 [wr .status 0xFFFFFFFF]).events = .host (.write 32 0x04 0xFFFFFFFF) :: [] ∧ 9 ≤ 31 := by decide

theorem witness_OutcomeRegisterFields :
    (at_ .awaitingFrame 0 [wr .outcome 0xFFFFFFFF]).events = .host (.write 32 0x0C 0xFFFFFFFF) :: [] := by decide

theorem witness_CrcHasFourWriters :
    (at_ .awaitingFrame 0 [wr .crcr 0xFF]).events = .host (.write 32 0x08 0xFF) :: [] ∧
    ends (step (at_ .awaitingFrame 0x97 [commandWrite 1])) (fun t => t.crc != 0x97) = true ∧
    ends (step (at_ .awaitingFrame 0x97 [.resetInput none 0])) (fun t => t.crc != 0x97) = true := by decide +kernel

theorem witness_CountersAndCmdRead : (pending [] [rd .cmd]).events = .host (.read 32 0x00) :: [] ∧
    (pending [] [rd .cntTotal]).events = .host (.read 32 0x10) :: [] ∧
    (pending [] [rd .cntGood]).events = .host (.read 32 0x14) :: [] ∧
    (pending [] [rd .cntBadCrc]).events = .host (.read 32 0x18) :: [] ∧
    (pending [] [rd .cntShort]).events = .host (.read 32 0x1C) :: [] := by decide

theorem witness_RecordRegistersRead :
    ({ State.reset with record := recordC, recValid := true } : State).recValid = true := by decide

theorem witness_ReadsHaveNoSideEffects :
    (pending [] [rd .recRsvd]).events = .host (.read 32 Reg.recRsvd.offset) :: [] ∧
    (pending [] [rd .cmd, rd .cmd]).events = .host (.read 32 Reg.cmd.offset) :: .host (.read 32 Reg.cmd.offset) :: [] ∧
    Reg.recRsvd ≠ .cmd ∧ Reg.recRsvd ≠ .status ∧
    (pending [] [wr .recRsvd 1]).events = .host (.write 32 Reg.recRsvd.offset 1) :: [] ∧
    (at_ .awaitingFrame 0 [commandWrite 4]).events = .host (.write 32 0x00 4) :: [] ∧
    ends (step (at_ .awaitingFrame 0 [commandWrite 4])) (fun t => t.requestOutstanding) = true := by decide

theorem witness_TimestampLanesAreWireBytes :
    ({ State.reset with record := recordA, recValid := true } : State).recValid = true ∧
    ({ State.reset with record := recordA, recValid := true } : State).record = decodePayload (frameA.take 31) ∧
    (frameA.take 31).length = 31 ∧ 3 < 4 := by decide +kernel

theorem witness_OnlyFstateVisibleBeforeCommit :
    ((at_ .awaitingFrame 0 []).fstate = .awaitingFrame ∧ ∃ t, exec .frameStep (at_ .awaitingFrame 0 []) = .next t) ∧
    (pending frameA [.source (.deliver 32)]).fstate = .readPending ∧
    (pending frameA [.source (.deliver 32)]).events = .source (.deliver 32) :: [] ∧
    32 ≤ (pending frameA [.source (.deliver 32)]).stream.length ∧
    ∃ t, step (pending frameA [.source (.deliver 32)]) = .next t :=
  ⟨⟨rfl, _, rfl⟩, rfl, rfl, by decide, _, rfl⟩

theorem witness_ChecksInPriorityOrder :
    (at_ .awaitingFrame 0 [.resetInput (some (.read 32 0x04)) 0]).events = .resetInput (some (.read 32 0x04)) 0 :: [] ∧
    (pending [] [.host (.write 16 0x00 6)]).busy = true ∧
    (pending [] [.host (.write 16 0x00 6)]).events = .host (.write 16 0x00 6) :: [] ∧
    (pending [] [commandWrite 6]).busy = true ∧ 6 ≤ (6 : Word).toNat % 256 ∧
    (pending [] [commandWrite 6]).events = commandWrite 6 :: [] ∧
    (at_ .shortFrame 0 [commandWrite 4]).fstate.terminal = true ∧ (4 : Word).toNat % 256 = 4 ∧
    (at_ .shortFrame 0 [commandWrite 4]).events = commandWrite 4 :: [] ∧
    (at_ .sourceError 0 [commandWrite 0xFF]).fstate.terminal = true ∧ 6 ≤ (0xFF : Word).toNat % 256 ∧
    (at_ .sourceError 0 [commandWrite 0xFF]).events = commandWrite 0xFF :: [] := by decide

theorem witness_ErrorBitsAreSticky :
    ends (step ({ pending [] [wr .status 0x100] with ovr := true, illcmd := true }))
      (fun t => !t.ovr && t.illcmd) = true ∧
    ends (step ({ at_ .awaitingFrame 0 [wr .status 0x80] with ovr := true, illcmd := true }))
      (fun t => t.ovr && !t.illcmd) = true := by decide

theorem witness_ResetInputActsAtAnyTime :
    (pending frameA [.resetInput (some (.write 32 0 1)) 32]).events = .resetInput (some (.write 32 0 1)) 32 :: [] ∧
    (32 : Nat) ≤ 32 ∧ (pending frameA [.resetInput (some (.write 32 0 1)) 32]).fstate = .readPending ∧
    (at_ .endOfStream 0 [.resetInput none 0]).events = .resetInput none 0 :: [] ∧
    (at_ .endOfStream 0 [.resetInput none 0]).fstate ≠ .readPending := by decide

theorem witness_LateAnswerDiscarded :
    ({ pending [] [.lateAnswer] with abandoned := 1 } : State).events = .lateAnswer :: [] ∧
    ({ pending [] [.lateAnswer] with abandoned := 1 } : State).abandoned = 0 + 1 := by decide

/-- The invariant in a state other than the reset state, and a step from it. -/
theorem witness_StepKeepsInvariant :
    (pending frameA [.source (.deliver 32)]).Inv ∧ ∃ t, step (pending frameA [.source (.deliver 32)]) = .next t :=
  ⟨⟨by decide, by decide, by decide, by decide, by decide, by decide, by decide, by decide, by decide, by decide,
    by decide, by decide⟩, _, rfl⟩

/-- A step from a terminal state that is no reset. -/
theorem witness_TerminalLeftOnlyByReset : (∃ t, step (at_ .endOfStream 0 [rd .status]) = .next t) ∧
    (at_ .endOfStream 0 [rd .status]).fstate.terminal = true ∧ ¬ (at_ .endOfStream 0 [rd .status]).resetNext := by
  refine ⟨⟨_, rfl⟩, rfl, ?_⟩
  rintro ⟨r, ⟨x, n, e⟩ | ⟨v, e, -⟩⟩ <;> cases e

/-- A `Decoded` commit that is no reset. -/
theorem witness_RecordWrittenOnlyByDecoded :
    ends (step (loaded frameA [])) (fun t => t.record == recordA && t.recValid) = true ∧ ¬ (loaded frameA []).resetNext := by
  refine ⟨by decide +kernel, ?_⟩
  rintro ⟨r, ⟨x, n, e⟩ | ⟨v, e, -⟩⟩ <;> cases e

theorem witness_FrameBufferWriters : Instr.crcInit ≠ .sreset ∧ (∃ t, exec .crcInit (loaded frameA []) = .next t) ∧
    (∃ t, step (loaded frameA []) = .next t) ∧ ¬ (loaded frameA []).resetNext ∧
    ∀ a rest, (loaded frameA []).events ≠ .source a :: rest := by
  refine ⟨by decide, ⟨_, rfl⟩, ⟨_, rfl⟩, ?_, fun _ _ h => by cases h⟩
  rintro ⟨r, ⟨x, n, e⟩ | ⟨v, e, -⟩⟩ <;> cases e

theorem witness_EveryCommandWordCompletes : (loaded frameA []).busy = true ∧ 6 ≤ (6 : Word).toNat % 256 ∧
    (at_ .shortFrame 0 []).busy = false := by decide

end Sys2Proof.Tests
end

section
/-! SUPPORT. The machine's invariant (10_state.md R44) is kept by each kind of step: a reset, a step that leaves the
framer's registers alone, and a commit. -/

namespace Sys2Proof.Machine

/-! ### What a commit leaves behind -/

/-- The framer state in which a commit of the outcome ends (42_framer.md R184, R186 to R188, R190). -/
def FrameOutcome.finalState : FrameOutcome → FrameState
  | .decoded _ => .awaitingFrame
  | .checksumMismatch => .awaitingFrame
  | .shortFrame _ => .shortFrame
  | .endOfStream => .endOfStream
  | .sourceUnavailable => .sourceError

/-- The length of a short tail is one that LAST_SHORT_LEN can hold and is not 0 (42_framer.md R186). -/
def FrameOutcome.lengthInRange : FrameOutcome → Prop
  | .shortFrame n => 1 ≤ n ∧ n ≤ 31
  | _ => True

theorem FrameOutcome.finalState_shortFrame_iff (o : FrameOutcome) :
    o.finalState = .shortFrame ↔ o.code = .shortFrame := by
  cases o <;> simp [finalState, code]

theorem FrameOutcome.finalState_endOfStream_iff (o : FrameOutcome) :
    o.finalState = .endOfStream ↔ o.code = .endOfStream := by
  cases o <;> simp [finalState, code]

theorem FrameOutcome.finalState_sourceError_iff (o : FrameOutcome) :
    o.finalState = .sourceError ↔ o.code = .sourceUnavailable := by
  cases o <;> simp [finalState, code]

theorem FrameOutcome.shortLen_ne_zero_iff {o : FrameOutcome} (h : o.lengthInRange) :
    o.shortLen ≠ 0 ↔ o.code = .shortFrame := by
  cases o with
  | shortFrame n =>
    obtain ⟨h1, h31⟩ := h
    have hn : BitVec.ofNat 5 n ≠ 0 := by bv_omega
    simpa [shortLen, code] using hn
  | _ => simp [shortLen, code]

/-- A terminal answer's outcome ends in the framer state the answer sets, with a length in range. -/
theorem finalState_of_terminal {f : FrameState} {o : FrameOutcome}
    (h : (f = .endOfStream ∧ o = .endOfStream) ∨ (f = .sourceError ∧ o = .sourceUnavailable) ∨
      ∃ n, 1 ≤ n ∧ n ≤ 31 ∧ f = .shortFrame ∧ o = .shortFrame n) : f = o.finalState ∧ o.lengthInRange := by
  obtain ⟨rfl, rfl⟩ | ⟨rfl, rfl⟩ | ⟨n, h1, h31, rfl, rfl⟩ := h
  · exact ⟨rfl, trivial⟩
  · exact ⟨rfl, trivial⟩
  · exact ⟨rfl, h1, h31⟩

/-- The outcome of a validate step ends in AWAITING_FRAME and has no length. -/
theorem finalState_of_validated {o : FrameOutcome} (h : o = .checksumMismatch ∨ ∃ r, o = .decoded r) :
    o.finalState = .awaitingFrame ∧ o.lengthInRange := by
  obtain rfl | ⟨r, rfl⟩ := h <;> exact ⟨rfl, trivial⟩

/-! ### The most recent decoded record -/

@[simp] theorem lastDecoded_append_decoded (os : List FrameOutcome) (r : Record) :
    lastDecoded (os ++ [.decoded r]) = some r := by
  induction os with
  | nil => rfl
  | cons o os ih => simp [lastDecoded, ih]

theorem lastDecoded_append_of_code_ne {o : FrameOutcome} (h : o.code ≠ .decoded) (os : List FrameOutcome) :
    lastDecoded (os ++ [o]) = lastDecoded os := by
  induction os with
  | nil =>
    cases o with
    | decoded r => exact absurd rfl h
    | _ => rfl
  | cons p os ih => simp only [List.cons_append, lastDecoded, ih]

/-! ### The invariant -/

/-- A busy state that meets the invariant has not ended, so it has counted no short tail (10_state.md R44b, R44f). -/
theorem State.Inv.cntShort_of_busy {s : State} (h : s.Inv) (hb : s.busy = true) : s.cntShort = 0 := by
  have hf : s.fstate ≠ .shortFrame := by
    rcases s.busy_iff.mp hb with e | e <;> rw [e] <;> decide
  have hc : s.lastCode ≠ .shortFrame := fun hc => hf (h.shortState.mpr hc)
  rw [h.shortCount, if_neg hc]

theorem State.resetCore_inv (u : State) : u.resetCore.Inv where
  frameWf := unspecifiedFrame_wf _
  tally := by simp [resetCore]
  shortCount := rfl
  shortLen := by simp [resetCore]
  shortState := by simp [resetCore]
  endState := by simp [resetCore]
  errorState := by simp [resetCore]
  goodValid := fun h => absurd rfl h
  decodedValid := by simp [resetCore]
  selfTested := ⟨rfl, selfTestPasses_true⟩
  lastOutcome := fun h => absurd rfl h
  latestRecord := by simp [resetCore]

/-- The reset state agrees with a state after ResetCore in every field of the invariant but FB, the self-test's bits and
the record registers. -/
theorem State.reset_inv : State.reset.Inv :=
  { State.reset.resetCore_inv with
    frameWf := rfl
    selfTested := ⟨rfl, rfl⟩
    latestRecord := fun h => Bool.noConfusion h }

/-- No field of the invariant speaks of the port's last answer. -/
theorem State.Inv.respond {s : State} (h : s.Inv) (r : BusResponse) : (s.respond r).Inv :=
  { h with }

/-- A step that leaves the framer's registers alone keeps the invariant, if FSTATE is in the same terminal state as
before or in none as before. -/
theorem State.Inv.of_sameFramer {s t : State} (h : s.Inv) (hs : SameFramer s t)
    (hf : ∀ f : FrameState, f.terminal = true → (t.fstate = f ↔ s.fstate = f)) (hfb : t.fb.wf = true)
    (hst : t.stDone = true ∧ t.stPass = true) : t.Inv where
  frameWf := hfb
  tally := by rw [hs.cntTotal, hs.cntGood, hs.cntBadCrc, h.tally]
  shortCount := by rw [hs.cntShort, hs.lastCode, h.shortCount]
  shortLen := by rw [hs.lastShortLen, hs.lastCode, h.shortLen]
  shortState := by rw [hf _ rfl, hs.lastCode, h.shortState]
  endState := by rw [hf _ rfl, hs.lastCode, h.endState]
  errorState := by rw [hf _ rfl, hs.lastCode, h.errorState]
  goodValid := by rw [hs.cntGood, hs.recValid]; exact h.goodValid
  decodedValid := by rw [hs.lastCode, hs.recValid]; exact h.decodedValid
  selfTested := hst
  lastOutcome := by rw [hs.lastCode, hs.lastShortLen, hs.out]; exact h.lastOutcome
  latestRecord := by rw [hs.recValid, hs.out, hs.record]; exact h.latestRecord

theorem Committed.tally {s t : State} {f : FrameState} {o : FrameOutcome} (hc : Committed s t f o)
    (h : s.cntTotal = s.cntGood + s.cntBadCrc) : t.cntTotal = t.cntGood + t.cntBadCrc := by
  rw [hc.cntTotal, hc.cntGood, hc.cntBadCrc, h]
  cases o with
  | decoded r => exact add_right_comm _ _ _
  | checksumMismatch => exact add_assoc _ _ _
  | _ => rfl

/-- A commit from a busy state keeps the invariant. -/
theorem State.Inv.of_committed {s t : State} {o : FrameOutcome} (h : s.Inv) (hb : s.busy = true)
    (hlen : o.lengthInRange) (hc : Committed s t o.finalState o) (hfb : t.fb.wf = true) : t.Inv where
  frameWf := hfb
  tally := hc.tally h.tally
  shortCount := by rw [hc.cntShort, hc.lastCode, h.cntShort_of_busy hb]; rfl
  shortLen := by rw [hc.lastShortLen, hc.lastCode, FrameOutcome.shortLen_ne_zero_iff hlen]
  shortState := by rw [hc.fstate, hc.lastCode, o.finalState_shortFrame_iff]
  endState := by rw [hc.fstate, hc.lastCode, o.finalState_endOfStream_iff]
  errorState := by rw [hc.fstate, hc.lastCode, o.finalState_sourceError_iff]
  goodValid := by
    obtain ⟨r, -, -, hv⟩ | ⟨hn, -, hv⟩ := hc.record
    · exact fun _ => hv
    · rw [hc.cntGood, if_neg hn, hv]; exact h.goodValid
  decodedValid := by
    obtain ⟨r, -, -, hv⟩ | ⟨hn, -, -⟩ := hc.record
    · exact fun _ => hv
    · exact fun hd => absurd (hc.lastCode.symm.trans hd) hn
  selfTested := by rw [hc.selfTest.1, hc.selfTest.2]; exact h.selfTested
  lastOutcome := fun _ => ⟨o, by rw [hc.out, List.getLast?_concat], hc.lastCode, hc.lastShortLen⟩
  latestRecord := by
    rw [hc.out]
    obtain ⟨r, rfl, hr, -⟩ | ⟨hn, hr, hv⟩ := hc.record
    · rw [hr]; exact fun _ => lastDecoded_append_decoded s.out r
    · rw [hv, hr, lastDecoded_append_of_code_ne hn]; exact h.latestRecord

/-- The three ways a step can treat FB all leave it in its canonical form. -/
theorem StepKind.fb_wf {s t : State} (h : StepKind s t) (hwf : s.fb.wf = true) : t.fb.wf = true := by
  cases h with
  | reset u _ ht => rw [ht]; exact unspecifiedFrame_wf _
  | quiet _ hfb => rwa [hfb]
  | load _ bytes _ _ _ _ hlen hfb => rw [hfb]; exact Memory.store_wf hwf (by simp [hlen, Config.frameLen])
  | terminal _ _ _ _ _ _ _ hfb => obtain ⟨k, hk⟩ := hfb; rw [hk]; exact unspecifiedFrame_wf k
  | validated _ _ _ _ hfb => rwa [hfb]

/-- FSTATE between two states that have not ended, or unchanged, names the same terminal state in both. -/
theorem fstate_eq_terminal_iff {a b f : FrameState} (hf : f.terminal = true)
    (h : b = a ∨ (a.terminal = false ∧ b.terminal = false)) : b = f ↔ a = f := by
  obtain rfl | ⟨ha, hb⟩ := h
  · rfl
  · constructor
    · rintro rfl; rw [hf] at hb; cases hb
    · rintro rfl; rw [hf] at ha; cases ha

/-- Each kind of step keeps the invariant. -/
theorem StepKind.inv {s t : State} (hk : StepKind s t) (h : s.Inv) : t.Inv := by
  have hwf : t.fb.wf = true := hk.fb_wf h.frameWf
  cases hk with
  | reset u _ ht => rw [ht]; exact u.resetCore_inv.respond _
  | quiet hsame _ hf hst =>
    refine h.of_sameFramer hsame (fun f hft => fstate_eq_terminal_iff hft ?_) hwf (hst h.selfTested)
    exact hf.imp_right fun ⟨ha, hp⟩ => by rw [ha, hp]; decide
  | load _ _ _ hsame hf hg _ _ hflags =>
    obtain ⟨-, -, -, hdone, hpass⟩ := hflags
    refine h.of_sameFramer hsame (fun f hft => fstate_eq_terminal_iff hft (.inr ?_)) hwf ?_
    · rw [hf, hg]; decide
    · rw [hdone, hpass]; exact h.selfTested
  | terminal f o _ _ hf hc ho =>
    obtain ⟨rfl, hlen⟩ := finalState_of_terminal ho
    exact h.of_committed (s.busy_iff.mpr (.inl hf)) hlen hc hwf
  | validated o hf hc ho =>
    obtain ⟨hfinal, hlen⟩ := finalState_of_validated ho
    exact h.of_committed (s.busy_iff.mpr (.inr hf)) hlen (hfinal ▸ hc) hwf

/-- Settles O56: every step is of one of five kinds, and each kind keeps the invariant. -/
theorem stepKeepsInvariant : Obligations.StepKeepsInvariant := by
  unfold Obligations.StepKeepsInvariant
  exact fun s t hinv h => (step_kinds h).inv hinv

/-- Settles O55: the reset state is one in which nothing has been emitted. -/
theorem resetEstablishesInvariant : Obligations.ResetEstablishesInvariant := by
  unfold Obligations.ResetEstablishesInvariant
  exact State.reset_inv

end Sys2Proof.Machine
end

section
/-! SUPPORT. Rules over one step from the kinds of step (Laws/Kinds): the tally, the terminal states, the record registers
and FB (10_state.md R24, R27, R28, R30, R31). -/

namespace Sys2Proof.Machine

/-- Counting the one outcome `o` adds 1 where the predicate holds of it. -/
theorem add_countP_singleton (c : Word) (p : FrameOutcome → Bool) (o : FrameOutcome) :
    c + BitVec.ofNat 32 ([o].countP p) = if p o = true then c + 1 else c := by
  cases hp : p o <;> simp [hp]

/-- A step that is no reset leaves the framer's registers alone, or commits one outcome. -/
theorem StepKind.sameFramer_or_committed {s t : State} (hk : StepKind s t) (hr : ¬ s.resetNext) :
    SameFramer s t ∨ ∃ f o, Committed s t f o := by
  cases hk with
  | reset u hreset => exact absurd hreset hr
  | quiet hsame => exact .inl hsame
  | load _ _ _ hsame => exact .inl hsame
  | terminal f o _ _ _ hc => exact .inr ⟨f, o, hc⟩
  | validated o _ hc => exact .inr ⟨_, o, hc⟩

/-- Settles O33: a step emits no outcome and leaves the tally, or commits one and counts that one. -/
theorem tallyCountsOutcomes : Obligations.TallyCountsOutcomes := by
  unfold Obligations.TallyCountsOutcomes
  intro s t h hr
  obtain hs | ⟨f, o, hc⟩ := (step_kinds h).sameFramer_or_committed hr
  · exact ⟨[], by simp [hs.out, hs.cntGood, hs.cntBadCrc, hs.cntShort, hs.cntTotal]⟩
  · refine ⟨[o], hc.out, ?_, ?_, ?_, ?_⟩ <;> rw [add_countP_singleton]
    · simp [hc.cntGood]
    · simp [hc.cntBadCrc]
    · simp [hc.cntShort]
    · simp [hc.cntTotal]

/-- Settles O57: no kind of step but a reset and a quiet one starts in a terminal state, and a quiet one that changes
FSTATE starts in AWAITING_FRAME. -/
theorem terminalLeftOnlyByReset : Obligations.TerminalLeftOnlyByReset := by
  unfold Obligations.TerminalLeftOnlyByReset
  intro s t h hterm hr
  cases step_kinds h with
  | reset u hreset => exact absurd hreset hr
  | quiet hsame _ hf =>
    obtain hf | ⟨ha, -⟩ := hf
    · exact ⟨hf, hsame.out⟩
    · rw [ha] at hterm; cases hterm
  | load _ _ _ _ hf => rw [hf] at hterm; cases hterm
  | terminal _ _ _ _ hf => rw [hf] at hterm; cases hterm
  | validated _ hf => rw [hf] at hterm; cases hterm

/-- Settles O58: only a commit of `Decoded` writes the record registers, and only the validate step commits one. -/
theorem recordWrittenOnlyByDecoded : Obligations.RecordWrittenOnlyByDecoded := by
  unfold Obligations.RecordWrittenOnlyByDecoded
  intro s t h hr
  cases step_kinds h with
  | reset u hreset => exact absurd hreset hr
  | quiet hsame => exact .inl ⟨hsame.record, hsame.recValid⟩
  | load _ _ _ hsame => exact .inl ⟨hsame.record, hsame.recValid⟩
  | terminal f o _ _ _ hc ho =>
    obtain ⟨r, rfl, -, -⟩ | ⟨-, hrec, hv⟩ := hc.record
    · simp at ho
    · exact .inl ⟨hrec, hv⟩
  | validated o hf hc =>
    obtain ⟨r, rfl, hrec, hv⟩ | ⟨-, hrec, hv⟩ := hc.record
    · exact .inr ⟨r, hf, hc.out, hrec, hv⟩
    · exact .inl ⟨hrec, hv⟩

/-- Settles O59: a command but SRESET is quiet, and of the steps only a reset and the source's answers are not, or
validate, which reads FB only. -/
theorem frameBufferWriters : Obligations.FrameBufferWriters := by
  unfold Obligations.FrameBufferWriters
  constructor
  · intro i s t hi h a
    obtain ⟨-, hfb, -⟩ := command_quiet s hi
    rw [exec_eq] at h
    cases h
    rw [hfb]
  · intro s t h hr hsrc a
    cases step_kinds h with
    | reset u hreset => exact absurd hreset hr
    | quiet _ hfb => rw [hfb]
    | load rest _ he => obtain ⟨n, he⟩ := he; exact absurd he (hsrc _ rest)
    | terminal _ _ rest he => obtain ⟨x, he⟩ := he; exact absurd he (hsrc x rest)
    | validated _ _ _ _ hfb => rw [hfb]

end Sys2Proof.Machine
end

section
/-! SUPPORT. Who writes CRC, ILLCMD and OVR (10_state.md R32, R37). -/

namespace Sys2Proof.Machine

/-- CRC and the two error bits, which no internal step of the framer writes (42_framer.md R187). -/
structure SameHostBits (s t : State) : Prop where
  crc : t.crc = s.crc
  illcmd : t.illcmd = s.illcmd
  ovr : t.ovr = s.ovr

theorem sameHostBits_validate (s : State) : SameHostBits s s.validate := by
  obtain ⟨o, hc, -⟩ := committed_validate s
  exact ⟨hc.crc, hc.illcmd, hc.ovr⟩

theorem sameHostBits_takeBytes (s : State) {bytes : List Byte} (h : bytes.length ≤ 32) :
    SameHostBits s (s.takeBytes bytes) := by
  obtain ⟨-, e⟩ | ⟨-, e⟩ | ⟨-, -, e⟩ := s.takeBytes_cases h <;> rw [e] <;> exact ⟨rfl, rfl, rfl⟩

/-- ILLCMD and OVR may be set but not cleared. -/
structure ErrorBitsKept (s t : State) : Prop where
  illcmd : s.illcmd = true → t.illcmd = true
  ovr : s.ovr = true → t.ovr = true

theorem errorBitsKept_raise (s : State) (e : HostError) : ErrorBitsKept s (s.raise e) := by
  cases e with
  | illegalCommand => exact ⟨fun _ => rfl, id⟩
  | commandOverrun => exact ⟨id, fun _ => rfl⟩
  | busError off => exact ⟨id, id⟩

@[simp] theorem State.raise_crc (s : State) (e : HostError) : (s.raise e).crc = s.crc := by cases e <;> rfl

/-- A command other than SRESET clears no error bit, and only CRC.INIT and CRC.UPD write CRC. -/
theorem command_hostBits (s : State) {i : Instr} (hi : i ≠ .sreset) :
    ((s.unlessBusy (commandEffect i)).crc = s.crc ∨ i = .crcInit ∨ ∃ b, i = .crcUpd b) ∧
    ErrorBitsKept s (s.unlessBusy (commandEffect i)) := by
  rcases s.unlessBusy_cases (commandEffect i) with ⟨-, e⟩ | ⟨-, e⟩ <;> rw [e]
  · exact ⟨.inl (s.raise_crc _), errorBitsKept_raise s _⟩
  · cases i with
    | nop => exact ⟨.inl rfl, id, id⟩
    | crcInit => exact ⟨.inr (.inl rfl), id, id⟩
    | crcUpd b => exact ⟨.inr (.inr ⟨b, rfl⟩), id, id⟩
    | selftest => exact ⟨.inl rfl, id, id⟩
    | frameStep =>
      simp only [commandEffect]
      split
      · exact ⟨.inl rfl, errorBitsKept_raise s _⟩
      · exact ⟨.inl rfl, id, id⟩
    | sreset => exact absurd rfl hi

/-- A word that is no command leaves CRC alone and clears no error bit. -/
theorem illegalWord_hostBits (s : State) :
    (s.unlessBusy fun u => u.raise .illegalCommand).crc = s.crc ∧
    ErrorBitsKept s (s.unlessBusy fun u => u.raise .illegalCommand) := by
  rcases s.unlessBusy_cases (fun u => u.raise .illegalCommand) with ⟨-, e⟩ | ⟨-, e⟩ <;> rw [e] <;>
    exact ⟨s.raise_crc _, errorBitsKept_raise s _⟩

/-- What a step can do to CRC, ILLCMD and OVR. -/
inductive HostBitsCase (s t : State) : Prop where
  | reset (h : s.resetNext)
  | cmdWrite (rest : List Event) (v : Word) (he : s.events = commandWrite v :: rest)
      (hcrc : t.crc = s.crc ∨ v.toNat % 256 = 1 ∨ v.toNat % 256 = 2) (hkept : ErrorBitsKept s t)
  | statusWrite (rest : List Event) (v : Word) (he : s.events = .host (.write 32 Reg.status.offset v) :: rest)
      (ht : SameHostBits (s.clearErrors v) t)
  | same (ht : SameHostBits s t)

/-- Only a reset and the host's writes to CMD and STATUS touch the three. -/
theorem StepCase.hostBits {s t : State} (h : StepCase s t) : HostBitsCase s t := by
  cases h with
  | idleValidate => exact .same (sameHostBits_validate s)
  | validate rest =>
    obtain ⟨hcrc, hill, hovr⟩ := sameHostBits_validate (s.setEvents rest)
    exact .same ⟨hcrc, hill, hovr⟩
  | command rest v i he hd =>
    by_cases hi : i = .sreset
    · subst hi; exact .reset ⟨rest, .inr ⟨v, he, hd⟩⟩
    · obtain ⟨hcrc, hill, hovr⟩ := command_hostBits (s.setEvents rest) hi
      refine .cmdWrite rest v he (hcrc.imp_right ?_) ⟨hill, hovr⟩
      rintro (rfl | ⟨b, rfl⟩)
      · exact .inl (decode_opcode hd)
      · exact .inr (decode_opcode hd)
  | illegalWord rest v _ he =>
    obtain ⟨hcrc, hill, hovr⟩ := illegalWord_hostBits (s.setEvents rest)
    exact .cmdWrite rest v he (.inl hcrc) ⟨hill, hovr⟩
  | clear rest v he => exact .statusWrite rest v he ⟨rfl, rfl, rfl⟩
  | deliver rest n hn =>
    have hlen : (s.stream.take n).length ≤ 32 := by rw [List.length_take]; omega
    obtain ⟨hcrc, hill, hovr⟩ :=
      sameHostBits_takeBytes ((s.setEvents rest).setStream (s.stream.drop n)) hlen
    exact .same ⟨hcrc, hill, hovr⟩
  | reset rest a n _ he => exact .reset ⟨rest, .inl ⟨a, n, he⟩⟩
  | read | busError | ignoredWrite | fail | late | attach => exact .same ⟨rfl, rfl, rfl⟩

/-- Settles O51: ILLCMD and OVR are cleared by a reset or by `State.clearErrors`, and by nothing else. -/
theorem errorBitsAreSticky : Obligations.ErrorBitsAreSticky := by
  unfold Obligations.ErrorBitsAreSticky
  intro s t h
  cases (step_cases h).hostBits with
  | reset hr => exact ⟨fun _ => .inr (.inl hr), fun _ => .inr (.inl hr)⟩
  | cmdWrite _ _ _ _ hkept => exact ⟨fun hs => .inl (hkept.illcmd hs), fun hs => .inl (hkept.ovr hs)⟩
  | same ht => exact ⟨fun hs => .inl (ht.illcmd.trans hs), fun hs => .inl (ht.ovr.trans hs)⟩
  | statusWrite rest v he ht =>
    constructor <;> intro hs
    · cases hv : v.getLsbD 7 with
      | true => exact .inr (.inr ⟨v, rest, he, hv⟩)
      | false => exact .inl (by rw [ht.illcmd, s.clearErrors_illcmd, hs, hv]; rfl)
    · cases hv : v.getLsbD 8 with
      | true => exact .inr (.inr ⟨v, rest, he, hv⟩)
      | false => exact .inl (by rw [ht.ovr, s.clearErrors_ovr, hs, hv]; rfl)

end Sys2Proof.Machine
end

section
/-! SUPPORT. The register port: a whole-register read and write as steps of the machine, and the registers' fields
(10_state.md R36 to R42). -/

namespace Sys2Proof.Machine

/-! ### Whole-register accesses as steps -/

/-- A read answers the register's value; the step adds only that the event is gone (20_memory.md R64, R70). -/
theorem step_read {s : State} {rest : List Event} (r : Reg) (he : s.events = .host (.read 32 r.offset) :: rest) :
    step s = .next { s with events := rest, response := .data (s.readRegister r) } := by
  have hread : (s.setEvents rest).readRegister r = s.readRegister r := by cases r <;> rfl
  simp only [step, he, perform, Event.wellFormed, if_true, hostAccess, regRead, accessedReg_offset, hread]
  rfl

/-- A write acts as the register's write does, and the port answers it (20_memory.md R64). -/
theorem step_write {s : State} {rest : List Event} {v : Word} (r : Reg)
    (he : s.events = .host (.write 32 r.offset v) :: rest) :
    step s = answered .written (writeRegister r v (s.setEvents rest)) := by
  simp only [step, he, perform, Event.wellFormed, if_true, hostAccess, regWrite, accessedReg_offset]

/-! ### STATUS and OUTCOME -/

theorem getLsbD_flagAt (b : Bool) {k : Nat} (hk : k < 32) (i : Nat) :
    (flagAt b k).getLsbD i = (b && decide (i = k)) := by
  cases b with
  | false => simp [flagAt]
  | true =>
    by_cases h : i = k
    · subst h; simp [flagAt, hk]
    · have hik : i < 32 → k ≤ i → ¬ i - k = 0 := by omega
      simpa [flagAt, h] using hik

/-- Bit `i` of STATUS (10_state.md R36). -/
theorem statusWord_getLsbD (s : State) (i : Nat) : s.statusWord.getLsbD i =
    (s.fstate.code.getLsbD i || (s.busy && decide (i = 3)) || (s.stDone && decide (i = 4)) ||
      (s.stPass && decide (i = 5)) || (s.recValid && decide (i = 6)) || (s.illcmd && decide (i = 7)) ||
      (s.ovr && decide (i = 8))) := by
  simp only [State.statusWord, BitVec.getLsbD_or, getLsbD_flagAt, Nat.reduceLT, BitVec.getLsbD_setWidth]
  by_cases h : i < 3
  · have : i < 32 := by omega
    simp [this]
  · simp [BitVec.getLsbD_of_ge s.fstate.code i (by omega)]

/-- A bit of STATUS above the framer state's code is one of the six flags, or 0. -/
theorem statusWord_getLsbD_flags (s : State) (i : Nat) (hi : 3 ≤ i) : s.statusWord.getLsbD i =
    ((s.busy && decide (i = 3)) || (s.stDone && decide (i = 4)) || (s.stPass && decide (i = 5)) ||
      (s.recValid && decide (i = 6)) || (s.illcmd && decide (i = 7)) || (s.ovr && decide (i = 8))) := by
  rw [statusWord_getLsbD, BitVec.getLsbD_of_ge _ i hi, Bool.false_or]

/-- Bit `i` of OUTCOME (10_state.md R38). -/
theorem outcomeWord_getLsbD (s : State) (i : Nat) : s.outcomeWord.getLsbD i =
    (s.lastCode.code.getLsbD i || (!decide (i < 8) && s.lastShortLen.getLsbD (i - 8))) := by
  simp only [State.outcomeWord, BitVec.getLsbD_or, BitVec.getLsbD_shiftLeft, BitVec.getLsbD_setWidth]
  by_cases h : i < 13
  · have h32 : i < 32 := by omega
    have h32' : i - 8 < 32 := by omega
    simp [h32, h32']
  · simp [BitVec.getLsbD_of_ge s.lastCode.code i (by omega),
      BitVec.getLsbD_of_ge s.lastShortLen (i - 8) (by omega)]

/-- The write-1-to-clear rule of one error bit, as a choice (10_state.md R36). -/
theorem and_not_eq_ite (bit clear : Bool) : (bit && !clear) = if clear = true then false else bit := by
  cases clear <;> simp

/-- Settles O42: STATUS read bit by bit, and the write of it as `State.clearErrors`. -/
theorem statusRegisterFields : Obligations.StatusRegisterFields := by
  unfold Obligations.StatusRegisterFields
  refine ⟨fun s => ?_, fun s rest v he => ?_, by decide⟩
  · have hflag := statusWord_getLsbD_flags s
    simp only [State.readRegister]
    refine ⟨?_, (hflag 3 (by decide)).trans (by simp), (hflag 4 (by decide)).trans (by simp),
      (hflag 5 (by decide)).trans (by simp), (hflag 6 (by decide)).trans (by simp),
      (hflag 7 (by decide)).trans (by simp), (hflag 8 (by decide)).trans (by simp), fun i hi => ?_⟩
    · ext i hi
      have hne : i ≠ 3 ∧ i ≠ 4 ∧ i ≠ 5 ∧ i ≠ 6 ∧ i ≠ 7 ∧ i ≠ 8 := by omega
      rw [BitVec.getElem_extractLsb', statusWord_getLsbD]
      simp [hne, BitVec.getLsbD_eq_getElem hi]
    · have hne : i ≠ 3 ∧ i ≠ 4 ∧ i ≠ 5 ∧ i ≠ 6 ∧ i ≠ 7 ∧ i ≠ 8 := by omega
      rw [hflag i (by omega)]
      simp [hne]
  · rw [step_write .status he, ← and_not_eq_ite, ← and_not_eq_ite]
    rfl

/-- Settles O43: OUTCOME read bit by bit; a write of it does nothing to the core. -/
theorem outcomeRegisterFields : Obligations.OutcomeRegisterFields := by
  unfold Obligations.OutcomeRegisterFields
  refine ⟨fun s => ?_, fun s rest v he => step_write .outcome he⟩
  simp only [State.readRegister]
  refine ⟨?_, ?_, ?_, ?_⟩ <;> ext i hi <;> rw [BitVec.getElem_extractLsb', outcomeWord_getLsbD]
  · have h8 : i < 8 := by omega
    simp [h8, BitVec.getLsbD_eq_getElem hi]
  · have h8 : 3 + i < 8 := by omega
    simp [h8]
  · simp [BitVec.getLsbD_eq_getElem hi, BitVec.getLsbD_of_ge s.lastCode.code (8 + i) (by omega)]
  · simp [BitVec.getLsbD_of_ge s.lastCode.code (13 + i) (by omega),
      BitVec.getLsbD_of_ge s.lastShortLen (13 + i - 8) (by omega)]

/-- Settles O44: CRCR reads and writes by the port; CRC's writers from `StepCase.hostBits`. -/
theorem crcHasFourWriters : Obligations.CrcHasFourWriters := by
  unfold Obligations.CrcHasFourWriters
  refine ⟨fun s => BitVec.toNat_setWidth_of_le (by decide), fun s rest v he => step_write .crcr he, fun s t h hne => ?_⟩
  cases (step_cases h).hostBits with
  | reset hr => exact .inl hr
  | cmdWrite rest v he hcrc => exact .inr ⟨v, rest, he, hcrc.resolve_left hne⟩
  | statusWrite _ _ _ ht => exact absurd ht.crc hne
  | same ht => exact absurd ht.crc hne

/-- Settles O45: each is a whole-register read. -/
theorem countersAndCmdRead : Obligations.CountersAndCmdRead := by
  unfold Obligations.CountersAndCmdRead
  exact fun s rest => ⟨step_read .cmd, step_read .cntTotal, step_read .cntGood, step_read .cntBadCrc,
    step_read .cntShort⟩

/-- A 64-bit value is its low half and 2^32 times its high half. -/
theorem extractLsb'_halves (x : BitVec 64) :
    (x.extractLsb' 0 32).toNat + 2 ^ 32 * (x.extractLsb' 32 32).toNat = x.toNat := by
  have hx := x.isLt
  simp only [BitVec.extractLsb'_toNat, Nat.shiftRight_eq_div_pow]
  omega

/-- Settles O46: a field read zero-extended has the field's value, so it is below 2 to the field's width. -/
theorem recordRegistersRead : Obligations.RecordRegistersRead := by
  unfold Obligations.RecordRegistersRead
  constructor
  · intro s hv
    have hrec : s.visibleRecord = s.record := if_pos hv
    unfold State.readRegister
    rw [hrec]
    exact ⟨extractLsb'_halves _, rfl, rfl, rfl, rfl, BitVec.toNat_setWidth_of_le (by decide),
      BitVec.toNat_setWidth_of_le (by decide), BitVec.toNat_setWidth_of_le (by decide),
      BitVec.toNat_setWidth_of_le (by decide)⟩
  · intro s
    simp only [State.readRegister]
    refine ⟨?_, ?_, ?_, ?_⟩ <;> rw [BitVec.toNat_setWidth_of_le (by decide)] <;> exact BitVec.isLt _

/-- Settles O54: one state, evaluated. -/
theorem resetStateReads : Obligations.ResetStateReads := by
  unfold Obligations.ResetStateReads
  decide

end Sys2Proof.Machine
end

section
/-! SUPPORT. The register port and the source as the host sees them (20_memory.md): what a host access leaves alone, in
which order the source is read, the byte lanes of a register, and what is visible before a commit. -/

namespace Sys2Proof.Machine

/-! ### Steps by their event -/

/-- A write of a word to CMD dispatches the word, and the port answers it (43_control.md R230). -/
theorem step_commandWrite {s : State} {rest : List Event} {v : Word} (he : s.events = commandWrite v :: rest) :
    step s = answered .written (dispatchWord v (s.setEvents rest)) :=
  step_write .cmd he

theorem dispatchWord_of_decode {v : Word} {i : Instr} (hd : decode v = .ok i) (s : State) :
    dispatchWord v s = exec i s := by
  simp only [dispatchWord, hd]

/-- An answer of up to 32 bytes to an outstanding request takes them from the source's front (20_memory.md R66). -/
theorem step_deliver {s : State} {rest : List Event} {n : Nat} (hf : s.fstate = .readPending)
    (he : s.events = .source (.deliver n) :: rest) (hn : n ≤ 32) :
    step s = .next (((s.setEvents rest).setStream (s.stream.drop n)).takeBytes (s.stream.take n)) := by
  have hw : (Event.source (.deliver n)).wellFormed = true := decide_eq_true hn
  have hq : (s.setEvents rest).requestOutstanding = true := (State.requestOutstanding_iff _).mpr hf
  simp only [step, he, perform, hw, if_true, sourceAnswers, hq]
  rfl

/-- A write to CMD of a word that decodes to `i` runs `i`, and the port answers it. -/
theorem step_runs_decoded {s : State} {rest : List Event} {v : Word} {i : Instr}
    (he : s.events = commandWrite v :: rest) (hd : decode v = .ok i) :
    ∃ t, exec i (s.setEvents rest) = .next t ∧ step s = .next (t.respond .written) := by
  refine ⟨_, exec_eq i _, ?_⟩
  rw [step_commandWrite he, dispatchWord_of_decode hd, exec_eq]
  rfl

/-- Settles O4: `withFetchWord` only puts such a write before the events. -/
theorem stepRunsDecodedCommand : Obligations.StepRunsDecodedCommand := by
  unfold Obligations.StepRunsDecodedCommand
  refine ⟨fun s rest v i => step_runs_decoded, fun s w i hd => ?_⟩
  have hword : BitVec.ofNat 32 (w % 2 ^ 32) = BitVec.ofNat 32 w := BitVec.eq_of_toNat_eq (by simp)
  exact step_runs_decoded (s := s.withFetchWord 32 w) rfl (by rw [hword, hd])

/-! ### What a host access leaves alone (20_memory.md R70) -/

/-- No register shows the events or the port's last answer. -/
theorem readRegister_outside (s : State) (es : List Event) (a : BusResponse) (r : Reg) :
    ({ s with events := es, response := a } : State).readRegister r = s.readRegister r := by
  cases r <;> rfl

/-- The source's bytes and OUT are as before, and a request is outstanding only if one was or `issued` holds. -/
structure SourceUntouched (s t : State) (issued : Prop) : Prop where
  stream : t.stream = s.stream
  out : t.out = s.out
  request : t.fstate = .readPending → s.fstate = .readPending ∨ issued

/-- Of the commands only FRAME.STEP makes a request, and none takes bytes or emits an outcome. -/
theorem command_sourceUntouched (s : State) (i : Instr) :
    SourceUntouched s (s.unlessBusy (commandEffect i)) (i = .frameStep) := by
  rcases s.unlessBusy_cases (commandEffect i) with ⟨-, e⟩ | ⟨-, e⟩ <;> rw [e]
  · exact ⟨rfl, rfl, .inl⟩
  · cases i with
    | frameStep =>
      rw [commandEffect]
      split <;> exact ⟨rfl, rfl, fun _ => .inr rfl⟩
    | sreset => exact ⟨rfl, rfl, fun h => nomatch h⟩
    | nop | crcInit | crcUpd | selftest => exact ⟨rfl, rfl, .inl⟩

theorem illegalWord_sourceUntouched (s : State) :
    SourceUntouched s (s.unlessBusy fun u => u.raise .illegalCommand) False := by
  rcases s.unlessBusy_cases (fun u => u.raise .illegalCommand) with ⟨-, e⟩ | ⟨-, e⟩ <;> rw [e] <;>
    exact ⟨rfl, rfl, .inl⟩

/-- A step that performs a host access leaves the source alone, unless it writes a FRAME.STEP word to CMD. -/
theorem StepCase.sourceUntouched {s t : State} {rest : List Event} {a : Access} (h : StepCase s t)
    (ha : s.events = .host a :: rest) :
    SourceUntouched s t (∃ v, a = .write 32 0x00 v ∧ v.toNat % 256 = 4) := by
  cases h with
  | command rest' v i he hd =>
    obtain ⟨hstream, hout, hreq⟩ := command_sourceUntouched (s.setEvents rest') i
    have hword : a = .write 32 0x00 v := by rw [he] at ha; cases ha; rfl
    refine ⟨hstream, hout, fun hp => (hreq hp).imp_right ?_⟩
    rintro rfl
    exact ⟨v, hword, decode_opcode hd⟩
  | illegalWord rest' =>
    obtain ⟨hstream, hout, hreq⟩ := illegalWord_sourceUntouched (s.setEvents rest')
    exact ⟨hstream, hout, fun hp => (hreq hp).imp_right False.elim⟩
  | read | busError | clear | ignoredWrite => exact ⟨rfl, rfl, .inl⟩
  | idleValidate he | validate _ he | deliver _ _ _ he | fail _ _ _ he | late _ _ he | reset _ _ _ _ he
  | attach _ _ he => rw [he] at ha; cases ha

/-- A register other than CMD and STATUS ignores a write (20_memory.md R64). -/
theorem writeRegister_ignored {r : Reg} (hc : r ≠ .cmd) (hs : r ≠ .status) (v : Word) (s : State) :
    writeRegister r v s = .next s := by
  cases r with
  | cmd => exact absurd rfl hc
  | status => exact absurd rfl hs
  | _ => rfl

/-- Settles O47: a read is `step_read`, twice for the second clause; an ignored write does nothing; and a host access
leaves the source untouched. -/
theorem readsHaveNoSideEffects : Obligations.ReadsHaveNoSideEffects := by
  unfold Obligations.ReadsHaveNoSideEffects
  refine ⟨fun s rest r => step_read r, fun s rest r he => ?_, fun s rest r v hc hs he => ?_,
    fun s t rest a he h => ?_⟩
  · refine ⟨_, step_read r he, rfl, ?_⟩
    rw [step_read r rfl, readRegister_outside]
    rfl
  · rw [step_write r he, writeRegister_ignored hc hs]
    rfl
  · obtain ⟨hstream, hout, hreq⟩ := (step_cases h).sourceUntouched he
    simp only [State.requestOutstanding_iff]
    exact ⟨hstream, hout, hreq⟩

/-! ### The order in which the source is read (20_memory.md R66) -/

/-- Settles O38: by kind, a step drops bytes from the front for an outstanding request, or leaves the source alone, or
attaches one. -/
theorem sourceConsumedInOrder : Obligations.SourceConsumedInOrder := by
  unfold Obligations.SourceConsumedInOrder
  intro s t h hattach
  cases step_kinds h with
  | reset _ _ _ _ _ hs => exact hs
  | quiet _ _ _ _ hs =>
    obtain hs | ⟨bytes, rest, he⟩ := hs
    · exact .inl hs
    · exact absurd he (hattach bytes rest)
  | load _ _ _ _ hf _ _ _ _ hs => exact .inr ⟨hf, hs⟩
  | terminal _ _ _ _ hf _ _ _ hs => exact .inr ⟨hf, hs⟩
  | validated _ _ _ _ _ hs => exact .inl hs

/-! ### Byte lanes (20_memory.md R62, R63) -/

/-- Byte `i` of a little-endian field is the payload's byte `i` from the field's offset on. -/
theorem payloadField_byte (p : List Byte) (off : Nat) {n i : Nat} (hi : i < n) :
    (payloadField p off n).extractLsb' (8 * i) 8 = p.getD (off + i) 0 := by
  have hlt : leValue ((p.drop off).take n) < 2 ^ (8 * n) :=
    calc leValue ((p.drop off).take n)
      _ < 256 ^ ((p.drop off).take n).length := leValue_lt _
      _ ≤ 256 ^ n := Nat.pow_le_pow_right (by decide) (List.length_take_le _ _)
      _ = 2 ^ (8 * n) := (Nat.pow_mul 2 8 n).symm
  have hget : ((p.drop off).take n).getD i 0 = p.getD (off + i) 0 := by
    simp [List.getD_eq_getElem?_getD, hi]
  apply BitVec.eq_of_toNat_eq
  calc ((payloadField p off n).extractLsb' (8 * i) 8).toNat
    _ = leValue ((p.drop off).take n) / 256 ^ i % 256 := by
      rw [BitVec.extractLsb'_toNat, payloadField, BitVec.toNat_ofNat, Nat.mod_eq_of_lt hlt,
        Nat.shiftRight_eq_div_pow, Nat.pow_mul]
    _ = (p.getD (off + i) 0).toNat := by rw [leValue_digit, hget]

/-- A byte lane of a 32-bit part of a 64-bit field is a byte of the field. -/
theorem byteLane_extractLsb' (x : BitVec 64) (start : Nat) {i : Nat} (hi : i < 4) :
    byteLane (x.extractLsb' start 32) i = x.extractLsb' (start + 8 * i) 8 := by
  ext j hj
  have hlane : 8 * i + j < 32 := by omega
  simp [byteLane, hlane, Nat.add_assoc]

/-- Settles O48: the lanes of the two registers are the eight bytes of the timestamp field, which starts the payload. -/
theorem timestampLanesAreWireBytes : Obligations.TimestampLanesAreWireBytes := by
  unfold Obligations.TimestampLanesAreWireBytes
  intro s p i hv hr _ hi
  have hts : s.visibleRecord.timestampMs = payloadField p 0 8 := by
    rw [State.visibleRecord, if_pos hv, hr]; rfl
  simp only [State.readRegister, hts, byteLane_extractLsb' _ _ hi]
  have hlow : 0 + 8 * i = 8 * i := by omega
  have hhigh : 32 + 8 * i = 8 * (4 + i) := by omega
  constructor
  · rw [hlow, payloadField_byte p 0 (by omega), Nat.zero_add]
  · rw [hhigh, payloadField_byte p 0 (by omega), Nat.zero_add]

/-! ### What the host sees before a commit (20_memory.md R74) -/

/-- `s` in the middle of a FRAME.STEP: FSTATE, FB, the source and the events are others, all else is as in `s`. -/
def State.midFrame (s : State) (f : FrameState) (fb : Memory) (stream : List Byte) (events : List Event) : State :=
  { s with fstate := f, fb := fb, stream := stream, events := events }

/-- Only STATUS shows the framer's state. -/
theorem readRegister_midFrame (s : State) (f : FrameState) (fb : Memory) (stream : List Byte) (events : List Event)
    {r : Reg} (hr : r ≠ .status) : (s.midFrame f fb stream events).readRegister r = s.readRegister r := by
  cases r with
  | status => exact absurd rfl hr
  | _ => rfl

/-- Bits 31 to 4 of STATUS do not show FSTATE or BUSY (10_state.md R36). -/
theorem statusWord_midFrame (s : State) (f : FrameState) (fb : Memory) (stream : List Byte) (events : List Event) :
    (s.midFrame f fb stream events).statusWord.extractLsb' 4 28 = s.statusWord.extractLsb' 4 28 := by
  ext i hi
  have hbusy : 4 + i ≠ 3 := by omega
  simp only [BitVec.getElem_extractLsb', statusWord_getLsbD_flags _ (4 + i) (by omega), hbusy, decide_false,
    Bool.and_false]
  rfl

/-- FRAME.STEP's issue changes FSTATE alone (42_framer.md R181). -/
theorem exec_frameStep_midFrame {s : State} (hf : s.fstate = .awaitingFrame) :
    exec .frameStep s = .next (s.midFrame .readPending s.fb s.stream s.events) := by
  have hidle : s.busy = false := s.not_busy_iff.mpr (.inl hf)
  have hnot : ¬ s.fstate.terminal = true := by rw [hf]; decide
  rw [exec_eq, State.unlessBusy_idle hidle, commandEffect, if_neg hnot]
  rfl

/-- An answer of 32 bytes leaves a FRAME.STEP in its middle, the bytes in FB (42_framer.md R185). -/
theorem step_deliver_midFrame {s : State} {rest : List Event} (hf : s.fstate = .readPending)
    (he : s.events = .source (.deliver 32) :: rest) (hlen : 32 ≤ s.stream.length) :
    step s = .next
      (s.midFrame .haveCompleteFrame (s.fb.store 0 (s.stream.take 32)) (s.stream.drop 32) rest) := by
  have htake : (s.stream.take 32).length = Config.frameLen := List.length_take_of_le hlen
  have hne : (s.stream.take 32).length ≠ 0 := by rw [htake]; decide
  rw [step_deliver hf he (Nat.le_refl 32), State.takeBytes, if_neg hne, if_pos htake]
  rfl

/-- Settles O49: both steps end in a state of the form `State.midFrame` that is busy. -/
theorem onlyFstateVisibleBeforeCommit : Obligations.OnlyFstateVisibleBeforeCommit := by
  unfold Obligations.OnlyFstateVisibleBeforeCommit
  intro s t h
  have hmid : ∃ f fb stream events, f.busy = true ∧ t = s.midFrame f fb stream events := by
    obtain ⟨hf, ht⟩ | ⟨rest, hf, he, hlen, ht⟩ := h
    · rw [exec_frameStep_midFrame hf] at ht; cases ht
      exact ⟨.readPending, _, _, _, rfl, rfl⟩
    · rw [step_deliver_midFrame hf he hlen] at ht; cases ht
      exact ⟨.haveCompleteFrame, _, _, _, rfl, rfl⟩
  obtain ⟨f, fb, stream, events, hbusy, rfl⟩ := hmid
  exact ⟨hbusy, statusWord_midFrame s f fb stream events,
    fun r hr => readRegister_midFrame s f fb stream events hr, rfl⟩

end Sys2Proof.Machine
end

section
/-! SUPPORT. The encoding of commands (30_encoding.md): which bits of a word the decoder reads, and what the others do
not change. -/

namespace Sys2Proof.Machine

/-! ### The bits that the decoder reads (30_encoding.md R90 to R93) -/

/-- Only OP is read, and bits 15 to 8 when OP is 0x02 (30_encoding.md R93). -/
theorem decode_congr {v w : Word} (hop : v.toNat % 256 = w.toNat % 256)
    (himm : v.toNat % 256 = 2 → v.toNat % 65536 = w.toNat % 65536) : decode v = decode w := by
  have hcmdOp : cmdOp v = cmdOp w := BitVec.eq_of_toNat_eq (by rw [cmdOp_toNat, cmdOp_toNat, hop])
  have hcmdImm8 : v.toNat % 256 = 2 → cmdImm8 v = cmdImm8 w := fun h2 => by
    have hlow := himm h2
    rw [cmdImm8_eq, cmdImm8_eq]
    apply BitVec.eq_of_toNat_eq
    simp only [BitVec.toNat_ofNat]
    omega
  unfold decode
  rw [← hcmdOp]
  split
  case h_3 h2 => rw [hcmdImm8 (by rwa [cmdOp_toNat] at h2)]
  all_goals rfl

/-- A command read from its assembled word is that command (30_encoding.md R104). -/
@[simp] theorem decode_encode (i : Instr) : decode (encode i) = .ok i := by
  cases i with
  | nop => exact Laws.AssembledWord.nop.1
  | crcInit => exact Laws.AssembledWord.crcInit.1
  | crcUpd imm8 => exact (Laws.AssembledWord.crcUpd imm8).1
  | selftest => exact Laws.AssembledWord.selftest.1
  | frameStep => exact Laws.AssembledWord.frameStep.1
  | sreset => exact Laws.AssembledWord.sreset.1

/-- The operand of a CRC.UPD read from a word is the word's IMM8 (30_encoding.md R92). -/
theorem decode_crcUpd_operand {v : Word} {b : Byte} (h : decode v = .ok (.crcUpd b)) : b = cmdImm8 v := by
  unfold decode at h
  split at h <;> cases h
  rfl

/-! ### A command's row of the opcode table (30_encoding.md R91, R104) -/

/-- How many low bits of a command word the command's row fixes or names a field. -/
def rowBits : Instr → Nat
  | .crcUpd _ => 16
  | _ => 8

theorem tableMask_toNat (i : Instr) : (tableMask i).toNat = 2 ^ rowBits i - 1 := by
  cases i <;> rfl

theorem and_tableMask_toNat (v : Word) (i : Instr) : (v &&& tableMask i).toNat = v.toNat % 2 ^ rowBits i := by
  rw [BitVec.toNat_and, tableMask_toNat, Nat.and_two_pow_sub_one_eq_mod]

/-- The word of CRC.UPD as a number: OP is 0x02, and the operand stands above it. -/
theorem encode_crcUpd_toNat (b : Byte) : (encode (.crcUpd b)).toNat = 256 * b.toNat + 2 := by
  have hb := b.isLt
  have hlt : b.toNat <<< 8 < 2 ^ 32 := by rw [Nat.shiftLeft_eq]; omega
  calc (encode (.crcUpd b)).toNat
    _ = b.toNat <<< 8 ||| 2 := by
      rw [encode, BitVec.toNat_or, BitVec.toNat_shiftLeft, BitVec.toNat_setWidth_of_le (by decide),
        Nat.mod_eq_of_lt hlt]
      rfl
    _ = b.toNat <<< 8 + 2 := (Nat.shiftLeft_add_eq_or_of_lt (by decide) _).symm
    _ = 256 * b.toNat + 2 := by rw [Nat.shiftLeft_eq, Nat.mul_comm]

/-- A word decodes to a command exactly when its low bits, as many as the command's row speaks of, are the command's
assembled word. -/
theorem decode_eq_ok_iff (v : Word) (i : Instr) :
    decode v = .ok i ↔ v.toNat % 2 ^ rowBits i = (encode i).toNat := by
  constructor
  · intro h
    cases i with
    | crcUpd b =>
      have hop : v.toNat % 256 = 2 := decode_opcode h
      have hb : b.toNat = v.toNat / 256 % 256 := by
        rw [decode_crcUpd_operand h, cmdImm8_eq, BitVec.toNat_ofNat]
      rw [encode_crcUpd_toNat, rowBits]
      omega
    | nop | crcInit | selftest | frameStep | sreset => exact decode_opcode h
  · intro h
    rw [← decode_encode i]
    cases i with
    | crcUpd b =>
      have hb := b.isLt
      rw [encode_crcUpd_toNat, rowBits] at h
      apply decode_congr <;> rw [encode_crcUpd_toNat] <;> omega
    | nop | crcInit | selftest | frameStep | sreset =>
      refine decode_congr h fun h2 => ?_
      exact absurd (h.symm.trans h2) (by decide)

/-- Settles O1: masked to its row's bits, a word is the command's assembled word exactly when it decodes to the
command; and a word decodes exactly when OP is below 0x06. -/
theorem decodeMatchesTableRows : Obligations.DecodeMatchesTableRows := by
  unfold Obligations.DecodeMatchesTableRows
  constructor
  · intro v i
    rw [decode_eq_ok_iff, ← and_tableMask_toNat, BitVec.toNat_inj]
  · intro v
    rw [← not_exists, decode_ok_iff, not_lt]

/-! ### Ignored bits (30_encoding.md R93) -/

theorem dispatchWord_congr {v w : Word} (h : decode v = decode w) (s : State) :
    dispatchWord v s = dispatchWord w s := by
  simp only [dispatchWord, h]

/-- Dispatch answers a next state for every word, legal or not (43_control.md R230). -/
theorem dispatchWord_next (v : Word) (s : State) : ∃ t, dispatchWord v s = .next t := by
  unfold dispatchWord
  split
  · exact ⟨_, exec_eq _ s⟩
  · exact ⟨_, rfl⟩

/-- Settles O3: such words decode alike, and a dispatch sees the word through the decoder alone. -/
theorem ignoredBitsHaveNoEffect : Obligations.IgnoredBitsHaveNoEffect := by
  unfold Obligations.IgnoredBitsHaveNoEffect
  intro v w s h
  have hdecode : decode v = decode w := by
    obtain hlow | ⟨hop, hne⟩ := h
    · exact decode_congr (by omega) fun _ => hlow
    · exact decode_congr hop fun h2 => absurd h2 hne
  exact ⟨dispatchWord_congr hdecode s, dispatchWord_next v s⟩

/-! ### The spec's examples (30_encoding.md R106) -/

/-- Settles O2: fixed words, evaluated. -/
theorem decodeReadsSpecExamples : Obligations.DecodeReadsSpecExamples := by
  unfold Obligations.DecodeReadsSpecExamples
  decide

end Sys2Proof.Machine
end

section
/-! SUPPORT. The checksum function (40_crc.md R129 to R131): it is linear over GF(2), its byte step is injective, and a
32-byte frame is valid exactly when its own checksum is 0x00. -/

namespace Sys2Proof.Machine

/-! ### Linearity (40_crc.md R129) -/

/-- A byte step is linear in the register and the byte together. -/
theorem crcStep_xor_xor (q r a b : Byte) : crcStep (q ^^^ r) (a ^^^ b) = crcStep q a ^^^ crcStep r b := by
  have hswap : (q ^^^ r) ^^^ (a ^^^ b) = (q ^^^ a) ^^^ (r ^^^ b) := by ac_rfl
  rw [crcStep, hswap, crcRounds_xor]
  rfl

/-- So is the fold, over byte sequences of equal length. -/
theorem crcFold_xor (q r : Byte) {a b : List Byte} (h : a.length = b.length) :
    crcFold (q ^^^ r) (List.zipWith (fun x y => x ^^^ y) a b) = crcFold q a ^^^ crcFold r b := by
  induction a generalizing q r b with
  | nil =>
    obtain rfl := List.length_eq_zero_iff.mp h.symm
    rfl
  | cons x a ih =>
    cases b with
    | nil => cases h
    | cons y b =>
      simp only [List.zipWith_cons_cons, crcFold_cons, crcStep_xor_xor]
      exact ih _ _ (Nat.succ.inj h)

/-! ### Injectivity (40_crc.md R121, R130) -/

/-- The bit shifted out of a round comes back as bit 0, the constant term of the polynomial. -/
theorem crcShift_getLsbD_zero (r : Byte) : (crcShift r).getLsbD 0 = r.getLsbD 7 := by
  unfold crcShift
  cases r.getLsbD 7 <;> simp [Config.crcPoly]

/-- A round loses nothing: bit 0 of its result tells whether the polynomial was added, and what is left is the shift. -/
theorem crcShift_injective : Function.Injective crcShift := by
  intro a b h
  have htop : a.getLsbD 7 = b.getLsbD 7 := by rw [← crcShift_getLsbD_zero, h, crcShift_getLsbD_zero]
  have hshift : a <<< 1 = b <<< 1 := by
    unfold crcShift at h
    rw [htop] at h
    split at h
    · exact (BitVec.xor_left_inj _).mp h
    · exact h
  refine BitVec.eq_of_getLsbD_eq fun i hi => ?_
  obtain rfl | hlow : i = 7 ∨ i + 1 < 8 := by omega
  · exact htop
  · simpa [BitVec.getLsbD_shiftLeft, hlow, -BitVec.getLsbD_eq_getElem] using congrArg (·.getLsbD (i + 1)) hshift

theorem crcRounds_injective : Function.Injective crcShift^[8] := crcShift_injective.iterate 8

@[simp] theorem crcStep_left_inj {q r : Byte} (b : Byte) : crcStep q b = crcStep r b ↔ q = r :=
  crcRounds_injective.eq_iff.trans (BitVec.xor_left_inj b)

@[simp] theorem crcStep_right_inj (r : Byte) {a b : Byte} : crcStep r a = crcStep r b ↔ a = b :=
  crcRounds_injective.eq_iff.trans (BitVec.xor_right_inj r)

@[simp] theorem crcFold_left_inj {q r : Byte} (bytes : List Byte) : crcFold q bytes = crcFold r bytes ↔ q = r := by
  induction bytes generalizing q r with
  | nil => rfl
  | cons b bytes ih => rw [crcFold_cons, crcFold_cons, ih, crcStep_left_inj]

/-- The 8 rounds take 0x00 to 0x00 and, being injective, nothing else (40_crc.md R124). -/
theorem crcStep_eq_zero_iff (r b : Byte) : crcStep r b = 0 ↔ r = b :=
  calc crcStep r b = 0
    _ ↔ crcShift^[8] (r ^^^ b) = crcShift^[8] 0 := Iff.rfl
    _ ↔ r = b := crcRounds_injective.eq_iff.trans BitVec.xor_eq_zero_iff

@[simp] theorem crcStep_self (r : Byte) : crcStep r r = 0 := (crcStep_eq_zero_iff r r).mpr rfl

/-! ### A frame and its checksum (30_encoding.md R96) -/

theorem compute_append (a b : List Byte) : compute (a ++ b) = crcFold (compute a) b := crcFold_append _ a b

theorem framePayload_append_checksum {f : List Byte} (h : f.length = 32) :
    framePayload f ++ [frameChecksum f] = f := by
  have hdrop : f.drop 31 = [f.getD 31 0] := by
    rw [List.drop_eq_getElem_cons (by omega), List.drop_of_length_le (by omega), List.getD_eq_getElem _ _ (by omega)]
  calc framePayload f ++ [frameChecksum f]
    _ = f.take 31 ++ f.drop 31 := by rw [hdrop]; rfl
    _ = f := List.take_append_drop 31 f

/-- The checksum of a frame, its checksum byte included, is 0x00 exactly when the frame is valid (40_crc.md R129). -/
theorem frameValid_iff {f : List Byte} (h : f.length = 32) : frameValid f = true ↔ compute f = 0 :=
  calc frameValid f = true
    _ ↔ compute (framePayload f) = frameChecksum f := beq_iff_eq
    _ ↔ compute (framePayload f ++ [frameChecksum f]) = 0 := by
      rw [compute_append, crcFold_cons, crcFold_nil, crcStep_eq_zero_iff]
    _ ↔ compute f = 0 := by rw [framePayload_append_checksum h]

theorem frameOutcome_of_invalid {f : List Byte} (h : ¬ frameValid f = true) : frameOutcome f = .checksumMismatch :=
  if_neg h

/-- Settles O14: linearity is `crcFold_xor` from two zero registers; the residue is a byte step of a byte on
itself; and a valid frame by `frameValid_iff`. -/
theorem computeLinearZeroResidue : Obligations.ComputeLinearZeroResidue := by
  unfold Obligations.ComputeLinearZeroResidue
  refine ⟨fun a b h => crcFold_xor 0 0 h, fun b => ?_, fun f h => (frameValid_iff h).mp⟩
  rw [compute_append, crcFold_cons, crcFold_nil, crcStep_self]

/-! ### Single-byte corruption (40_crc.md R130) -/

theorem compute_ne_of_byte_ne (before after : List Byte) {x y : Byte} (h : x ≠ y) :
    compute (before ++ x :: after) ≠ compute (before ++ y :: after) := by
  simpa only [compute_append, crcFold_cons, crcFold_left_inj, crcStep_right_inj, ne_eq] using h

/-- Settles O16: the checksum of a valid frame is 0x00, and that of the changed frame is another, so it is
invalid. -/
theorem singleByteCorruptionDetected : Obligations.SingleByteCorruptionDetected := by
  unfold Obligations.SingleByteCorruptionDetected
  refine ⟨fun before after x y => compute_ne_of_byte_ne before after, fun before after x y h hlen hvalid => ?_⟩
  have hlen' : (before ++ y :: after).length = 32 := by simpa using hlen
  have hzero : compute (before ++ x :: after) = 0 := (frameValid_iff hlen).mp hvalid
  apply frameOutcome_of_invalid
  rw [frameValid_iff hlen', ← hzero]
  exact (compute_ne_of_byte_ne before after h).symm

/-! ### Leading zeros (40_crc.md R131) -/

theorem compute_replicate_zero (k : Nat) : compute (List.replicate k 0x00) = 0 := by
  induction k with
  | zero => rfl
  | succ k ih => exact ih

/-- Settles O15: leading zeros leave the register at 0x00, the all-zero frame is all leading zeros, and the two
fixed values are evaluated. -/
theorem leadingZerosDoNotCount : Obligations.LeadingZerosDoNotCount := by
  unfold Obligations.LeadingZerosDoNotCount
  refine ⟨fun k b => ?_, crcStep_self 0, ?_, by decide +kernel, by decide +kernel⟩
  · rw [compute_append, compute_replicate_zero]
    rfl
  · exact (frameValid_iff List.length_replicate).mpr (compute_replicate_zero 32)

end Sys2Proof.Machine
end

section
/-! SUPPORT. The commands of the checksum unit (40_crc.md section 2), and several of them one after another
(40_crc.md R128). -/

namespace Sys2Proof.Machine

/-! ### Any command, busy and not busy -/

/-- While BUSY = 1 a command is dropped and sets OVR (60_exceptions.md R253). -/
theorem exec_of_busy (i : Instr) {s : State} (h : s.busy = true) : exec i s = .next { s with ovr := true } := by
  rw [exec_eq, State.unlessBusy_busy h]
  rfl

theorem exec_of_idle (i : Instr) {s : State} (h : s.busy = false) : exec i s = .next (commandEffect i s) := by
  rw [exec_eq, State.unlessBusy_idle h]

/-- A command's assembled word written to CMD has the command's effect, if the machine is not busy. -/
theorem step_encoded_of_idle {s : State} {rest : List Event} {i : Instr} (h : s.busy = false)
    (he : s.events = commandWrite (encode i) :: rest) :
    step s = .next ((commandEffect i (s.setEvents rest)).respond .written) := by
  rw [step_commandWrite he, dispatchWord_of_decode (decode_encode i), exec_of_idle i (s := s.setEvents rest) h]
  rfl

/-- Settles O6: the word by its low byte, the effect by `exec_of_idle`. -/
theorem crcInitClearsAccumulator : Obligations.CrcInitClearsAccumulator := by
  unfold Obligations.CrcInitClearsAccumulator
  exact ⟨fun v => (decode_eq_ok_iff v .crcInit).mpr, fun s => exec_of_idle .crcInit, fun s => exec_of_busy .crcInit⟩

/-- Settles O7: the word by its two low bytes, the effect by `exec_of_idle`, and CrcStep(r, r) by `crcStep_self`. -/
theorem crcUpdFoldsOneByte : Obligations.CrcUpdFoldsOneByte := by
  unfold Obligations.CrcUpdFoldsOneByte
  refine ⟨fun v hop => ?_, fun s b => exec_of_idle (.crcUpd b), fun s b => exec_of_busy (.crcUpd b), crcStep_self,
    by decide +kernel⟩
  rw [decode_eq_ok_iff, encode_crcUpd_toNat, rowBits, BitVec.toNat_ofNat]
  omega

/-- Settles O8: the self-test passes, and FRAME.STEP's issue does not look at its result. -/
theorem selftestSetsDoneAndPass : Obligations.SelftestSetsDoneAndPass := by
  unfold Obligations.SelftestSetsDoneAndPass
  refine ⟨eq_of_beq selfTestPasses_true, fun v => (decode_eq_ok_iff v .selftest).mpr, fun s h => ?_,
    fun s => exec_of_busy .selftest, fun s => ⟨rfl, selfTestPasses_true⟩,
    fun s pass hf => exec_frameStep_midFrame (s := { s with stPass := pass }) hf⟩
  rw [exec_of_idle .selftest h, commandEffect, selfTestPasses_true]
  rfl

/-! ### A run of CRC.UPD (40_crc.md R128) -/

theorem runSteps_succ {s t : State} (h : step s = .next t) (n : Nat) : runSteps (n + 1) s = runSteps n t := by
  simp only [runSteps, h]

/-- After a write that the port answered, CRC.UPD of each byte of a sequence folds the sequence into CRC. -/
theorem runSteps_crcUpd {s : State} {rest : List Event} (bytes : List Byte) (h : s.busy = false)
    (he : s.events = (bytes.map fun b => commandWrite (encode (.crcUpd b))) ++ rest) :
    runSteps bytes.length (s.respond .written) =
      .next { s with events := rest, crc := crcFold s.crc bytes, response := .written } := by
  induction bytes generalizing s with
  | nil =>
    obtain rfl : rest = s.events := he.symm
    rfl
  | cons b bytes ih =>
    have hfirst := step_encoded_of_idle (s := s.respond .written) h he
    exact (runSteps_succ hfirst bytes.length).trans (ih h rfl)

/-- Settles O17: CRC.INIT leaves 0x00 in CRC, from where the fold of the bytes is their checksum. -/
theorem accumulatorTracksCompute : Obligations.AccumulatorTracksCompute := by
  unfold Obligations.AccumulatorTracksCompute
  intro s bytes rest h he
  exact (runSteps_succ (step_encoded_of_idle h he) _).trans (runSteps_crcUpd bytes h rfl)

end Sys2Proof.Machine
end

section
/-! SUPPORT. The decoder of records and the spec's encoder (41_decoder.md): a field is the little-endian value of its
bytes, an encoding is its fields' bytes one after another, and the status byte is read bit by bit. -/

namespace Sys2Proof.Machine

/-! ### One field of a payload (41_decoder.md R150, R153) -/

theorem leValue_take_eq_sum (bytes : List Byte) (n : Nat) :
    leValue (bytes.take n) = ∑ i ∈ Finset.range n, (bytes.getD i 0).toNat * 2 ^ (8 * i) := by
  induction n generalizing bytes with
  | zero => rfl
  | succ n ih =>
    cases bytes with
    | nil => simp [leValue]
    | cons b bytes =>
      have hterm (i : Nat) : (bytes.getD i 0).toNat * 2 ^ (8 * (i + 1)) =
          256 * ((bytes.getD i 0).toNat * 2 ^ (8 * i)) := by ring
      simp only [List.take_succ_cons, leValue, ih, Finset.sum_range_succ', List.getD_cons_succ, List.getD_cons_zero,
        hterm, ← Finset.mul_sum]
      omega

/-- The field's width holds every value of its bytes: there is no range check and no wrap (41_decoder.md R153). -/
theorem payloadField_toNat (p : List Byte) (off n : Nat) :
    (payloadField p off n).toNat = leValue ((p.drop off).take n) := by
  have hlt : leValue ((p.drop off).take n) < 2 ^ (8 * n) :=
    (leValue_lt _).trans_le <| Nat.pow_mul 2 8 n ▸ Nat.pow_le_pow_right (by decide) (List.length_take_le _ _)
  rw [payloadField, BitVec.toNat_ofNat, Nat.mod_eq_of_lt hlt]

theorem payloadField_toNat_eq_sum (p : List Byte) (off n : Nat) :
    (payloadField p off n).toNat = ∑ i ∈ Finset.range n, (p.getD (off + i) 0).toNat * 2 ^ (8 * i) := by
  rw [payloadField_toNat, leValue_take_eq_sum]
  simp [List.getD_eq_getElem?_getD]

theorem payloadField_one (p : List Byte) (off : Nat) : payloadField p off 1 = p.getD off 0 :=
  calc payloadField p off 1
    _ = (payloadField p off 1).extractLsb' (8 * 0) 8 := BitVec.extractLsb'_eq_self.symm
    _ = p.getD off 0 := payloadField_byte p off Nat.one_pos

/-- A field depends on its own bytes alone. -/
theorem payloadField_congr {p q : List Byte} {off n : Nat} (h : ∀ i < n, p.getD (off + i) 0 = q.getD (off + i) 0) :
    payloadField p off n = payloadField q off n := by
  apply BitVec.eq_of_toNat_eq
  rw [payloadField_toNat_eq_sum, payloadField_toNat_eq_sum]
  exact Finset.sum_congr rfl fun i hi => by rw [h i (Finset.mem_range.mp hi)]

/-- Settles O18: each field by `payloadField_toNat_eq_sum`, those of one byte by `payloadField_one`. -/
theorem decodedFieldsAreLittleEndian : Obligations.DecodedFieldsAreLittleEndian := by
  unfold Obligations.DecodedFieldsAreLittleEndian
  intro p _
  have hsensor : (payloadField p 24 2).toNat = (p.getD 24 0).toNat + 256 * (p.getD 25 0).toNat := by
    simp [payloadField_toNat_eq_sum, Finset.sum_range_succ, Nat.mul_comm]
  exact ⟨payloadField_toNat_eq_sum p 0 8, payloadField_toNat_eq_sum p 8 4, payloadField_toNat_eq_sum p 12 4,
    payloadField_toNat_eq_sum p 16 4, payloadField_toNat_eq_sum p 20 4, hsensor, payloadField_one p 26,
    payloadField_one p 27, payloadField_one p 28⟩

/-- Settles O20: the nine fields end at byte 28. -/
theorem decodeIgnoresUnusedBytes : Obligations.DecodeIgnoresUnusedBytes := by
  unfold Obligations.DecodeIgnoresUnusedBytes
  intro p q _ _ h
  have hfield (off n : Nat) (hend : off + n ≤ 29) : payloadField p off n = payloadField q off n :=
    payloadField_congr fun i hi => h (off + i) (by omega)
  simp (disch := decide) only [decodePayload, hfield]

/-! ### Encoding and decoding (41_decoder.md R171) -/

@[simp] theorem encodePayload_length (r : Record) (u29 u30 : Byte) : (encodePayload r u29 u30).length = 31 := rfl

/-- A field whose bytes stand in the payload from its offset on has their value. -/
theorem payloadField_of_drop {p rest : List Byte} {off n : Nat} {v : BitVec (8 * n)}
    (h : p.drop off = leBytes n v.toNat ++ rest) : payloadField p off n = v := by
  have hv : v.toNat < 256 ^ n := Nat.pow_mul 2 8 n ▸ v.isLt
  apply BitVec.eq_of_toNat_eq
  rw [payloadField_toNat, h, List.take_left' (leBytes_length n _), leValue_leBytes, Nat.mod_eq_of_lt hv]

theorem decodePayload_encodePayload (r : Record) (u29 u30 : Byte) :
    decodePayload (encodePayload r u29 u30) = r := by
  cases r with
  | mk ts lat lon alt temp sensor batt flags rsvd =>
    rw [decodePayload, Record.mk.injEq]
    exact ⟨payloadField_of_drop rfl, payloadField_of_drop rfl, payloadField_of_drop rfl, payloadField_of_drop rfl,
      payloadField_of_drop rfl, payloadField_of_drop rfl, payloadField_one _ 26, payloadField_one _ 27,
      payloadField_one _ 28⟩

/-- The bytes of a field, before those that follow it in the payload. -/
theorem leBytes_payloadField_append (p : List Byte) (off n : Nat) (h : off + n ≤ p.length) :
    leBytes n (payloadField p off n).toNat ++ p.drop (off + n) = p.drop off := by
  have hlen : ((p.drop off).take n).length = n := by
    rw [List.length_take, List.length_drop]
    omega
  have hbytes : leBytes n (payloadField p off n).toNat = (p.drop off).take n := by
    rw [payloadField_toNat]
    simpa only [hlen] using leBytes_leValue ((p.drop off).take n)
  rw [hbytes, ← List.drop_drop, List.take_append_drop]

theorem getD_cons_drop (p : List Byte) (k : Nat) (h : k < p.length) : p.getD k 0 :: p.drop (k + 1) = p.drop k := by
  rw [List.drop_eq_getElem_cons h, List.getD_eq_getElem _ _ h]

theorem encodePayload_decodePayload {p : List Byte} (h : p.length = 31) :
    encodePayload (decodePayload p) (p.getD 29 0) (p.getD 30 0) = p := by
  have hbytes : [payloadField p 26 1, payloadField p 27 1, payloadField p 28 1, p.getD 29 0, p.getD 30 0] =
      p.drop 26 := by
    have hend : [] = p.drop 31 := (List.drop_of_length_le h.le).symm
    rw [payloadField_one, payloadField_one, payloadField_one, hend, getD_cons_drop p 30 (by omega),
      getD_cons_drop p 29 (by omega), getD_cons_drop p 28 (by omega), getD_cons_drop p 27 (by omega),
      getD_cons_drop p 26 (by omega)]
  have hfield (off n : Nat) (hle : off + n ≤ 31) := leBytes_payloadField_append p off n (by omega)
  simp only [encodePayload, decodePayload, List.append_assoc]
  rw [hbytes, hfield 24 2 (by decide), hfield 20 4 (by decide), hfield 16 4 (by decide), hfield 12 4 (by decide),
    hfield 8 4 (by decide), hfield 0 8 (by decide), List.drop_zero]

/-- Settles O19: one direction field by field, the other from the payload's end to its front. -/
theorem recordRoundTrip : Obligations.RecordRoundTrip := by
  unfold Obligations.RecordRoundTrip
  exact ⟨fun r u29 u30 => ⟨decodePayload_encodePayload r u29 u30, encodePayload_length r u29 u30⟩,
    fun p h => encodePayload_decodePayload h⟩

/-! ### The encoder's frame (41_decoder.md R170; 30_encoding.md R96) -/

@[simp] theorem wireFrame_length (r : Record) (u29 u30 : Byte) : (wireFrame r u29 u30).length = 32 := rfl

@[simp] theorem framePayload_wireFrame (r : Record) (u29 u30 : Byte) :
    framePayload (wireFrame r u29 u30) = encodePayload r u29 u30 :=
  List.take_left' (encodePayload_length r u29 u30)

theorem wireFrame_valid (r : Record) (u29 u30 : Byte) : frameValid (wireFrame r u29 u30) = true := by
  rw [frameValid_iff (wireFrame_length r u29 u30), wireFrame, compute_append, crcFold_cons, crcFold_nil, crcStep_self]

theorem frameOutcome_of_valid {f : List Byte} (h : frameValid f = true) :
    frameOutcome f = .decoded (decodePayload (framePayload f)) :=
  if_pos h

/-- Settles O22: the frame is valid by its checksum, and its payload decodes by the round trip. -/
theorem encodedFrameDecodes : Obligations.EncodedFrameDecodes := by
  unfold Obligations.EncodedFrameDecodes
  intro r u29 u30
  refine ⟨wireFrame_length r u29 u30, ?_⟩
  rw [frameOutcome_of_valid (wireFrame_valid r u29 u30), framePayload_wireFrame, decodePayload_encodePayload]

/-! ### The status byte (41_decoder.md R160) -/

theorem getLsbD_iff_div_mod {w : Nat} (x : BitVec w) (i : Nat) : x.getLsbD i = true ↔ x.toNat / 2 ^ i % 2 = 1 := by
  rw [← BitVec.testBit_toNat, Nat.testBit_eq_decide_div_mod_eq, decide_eq_true_iff]

theorem State.visibleRecord_of_recValid {s : State} (h : s.recValid = true) : s.visibleRecord = s.record := if_pos h

/-- Settles O24: each predicate is a bit of the byte, and REC_STATUS is the byte zero-extended. -/
theorem statusPredicatesReadOneBit : Obligations.StatusPredicatesReadOneBit := by
  unfold Obligations.StatusPredicatesReadOneBit
  refine ⟨fun f => ⟨?_, getLsbD_iff_div_mod f 1, getLsbD_iff_div_mod f 2⟩, fun s h => ?_⟩
  · simpa only [systemOk, Nat.pow_zero, Nat.div_one] using getLsbD_iff_div_mod f 0
  · rw [State.readRegister, State.visibleRecord_of_recValid h, ← BitVec.setWidth_eq_extractLsb' (by decide),
      BitVec.setWidth_setWidth_of_le _ (by decide), BitVec.setWidth_eq]

end Sys2Proof.Machine
end

section
/-! SUPPORT. Frames and their outcomes (42_framer.md R197, R198): a changed byte of a valid frame, and the corner
frames. -/

namespace Sys2Proof.Machine

/-! ### The unused payload bytes (42_framer.md R197) -/

/-- A valid frame with one byte set to another value is a mismatch (40_crc.md R130). -/
theorem frameOutcome_set_of_ne {f : List Byte} {i : Nat} {x : Byte} (hlen : f.length = 32)
    (hvalid : frameValid f = true) (hi : i < 32) (hx : x ≠ f.getD i 0) :
    frameOutcome (f.set i x) = .checksumMismatch := by
  have hsplit : f.take i ++ f.getD i 0 :: f.drop (i + 1) = f := by
    rw [getD_cons_drop f i (by omega), List.take_append_drop]
  obtain ⟨-, hcorrupt⟩ := singleByteCorruptionDetected
  rw [List.set_eq_take_append_cons_drop, if_pos (by omega)]
  exact hcorrupt (f.take i) (f.drop (i + 1)) (f.getD i 0) x hx.symm (by rw [hsplit, hlen]) (by rw [hsplit, hvalid])

theorem framePayload_length {f : List Byte} (h : f.length = 32) : (framePayload f).length = 31 :=
  List.length_take_of_le (h ▸ (by decide : 31 ≤ 32))

theorem framePayload_getD (f : List Byte) {i : Nat} (hi : i < 31) : (framePayload f).getD i 0 = f.getD i 0 := by
  simp [framePayload, Config.payloadLen, List.getD_eq_getElem?_getD, hi]

/-- Settles O21: a valid frame with one byte changed is a mismatch, bytes 29 and 30 included, while the record of a valid
frame does not depend on them. -/
theorem unusedBytesAreChecksummed : Obligations.UnusedBytesAreChecksummed := by
  unfold Obligations.UnusedBytesAreChecksummed
  refine ⟨fun f x hlen hvalid => ⟨frameOutcome_set_of_ne hlen hvalid (by decide),
    frameOutcome_set_of_ne hlen hvalid (by decide)⟩, fun f g hf hg hvf hvg heq => ?_⟩
  have hrecord : decodePayload (framePayload f) = decodePayload (framePayload g) :=
    decodeIgnoresUnusedBytes _ _ (framePayload_length hf) (framePayload_length hg) fun i hi => by
      rw [framePayload_getD f (by omega), framePayload_getD g (by omega), heq i hi]
  rw [frameOutcome_of_valid hvf, frameOutcome_of_valid hvg, hrecord]

/-! ### The corner frames (42_framer.md R198) -/

/-- Settles O23: the all-zero frame is valid by its leading zeros; the all-0xFF frame would be valid only if the checksum
of its payload, 0xFC, were 0xFF. -/
theorem cornerFrames : Obligations.CornerFrames := by
  unfold Obligations.CornerFrames
  have hones : compute (List.replicate 31 0xFF) = 0xFC := by decide +kernel
  have hzero : frameValid (List.replicate 32 0x00) = true :=
    (frameValid_iff List.length_replicate).mpr (compute_replicate_zero 32)
  refine ⟨frameOutcome_of_valid hzero, rfl, rfl, rfl, hones, frameOutcome_of_invalid fun hvalid => ?_⟩
  have hff : compute (List.replicate 31 0xFF) = 0xFF := eq_of_beq hvalid
  rw [hones] at hff
  exact absurd hff (by decide)

end Sys2Proof.Machine
end

section
/-! SUPPORT. FRAME.STEP's issue and the source's answer as steps of the machine (42_framer.md sections 2 and 3). -/

namespace Sys2Proof.Machine

/-! ### The issue (42_framer.md R181) -/

/-- Settles O9: the word by its low byte, the effect by `exec_frameStep_midFrame`. -/
theorem frameStepIssuesRequest : Obligations.FrameStepIssuesRequest := by
  unfold Obligations.FrameStepIssuesRequest
  refine ⟨fun v => (decode_eq_ok_iff v .frameStep).mpr, fun s hf => ⟨exec_frameStep_midFrame hf, ?_, rfl⟩⟩
  rw [State.requestOutstanding, hf]
  rfl

/-! ### The answers that end the stream (42_framer.md R184, R186, R190) -/

/-- An answer of no bytes takes none from the source. -/
theorem drop_of_take_eq_nil {bytes : List Byte} {n : Nat} (h : bytes.take n = []) : bytes.drop n = bytes := by
  simpa only [h, List.nil_append] using List.take_append_drop n bytes

/-- Settles O25: by the answer's length, the step is `State.endStream`. -/
theorem emptyAnswerEndsStream : Obligations.EmptyAnswerEndsStream := by
  unfold Obligations.EmptyAnswerEndsStream
  intro s rest n hf he hn hempty
  refine ⟨unspecifiedFrame s.frameDraws, s.frameDraws + 1, ?_⟩
  rw [step_deliver hf he hn, hempty, drop_of_take_eq_nil hempty]
  rfl

/-- Settles O26: by the answer's length, the step is `State.endShort`. -/
theorem shortAnswerEndsStream : Obligations.ShortAnswerEndsStream := by
  unfold Obligations.ShortAnswerEndsStream
  intro s rest n len hf he hn hlen h1 h31
  refine ⟨unspecifiedFrame s.frameDraws, s.frameDraws + 1, ?_⟩
  have hne0 : len ≠ 0 := by omega
  have hne32 : len ≠ Config.frameLen := by rw [Config.frameLen]; omega
  rw [step_deliver hf he hn, State.takeBytes, hlen, if_neg hne0, if_neg hne32]
  rfl

/-- A failure answered to an outstanding request ends the stream, and the bytes that came with it are gone (log 7). -/
theorem step_fail {s : State} {rest : List Event} {n : Nat} (hf : s.fstate = .readPending)
    (he : s.events = .source (.fail n) :: rest) (hn : n ≤ 32) :
    step s = .next ((s.setEvents rest).setStream (s.stream.drop n)).endFailed := by
  have hw : (Event.source (.fail n)).wellFormed = true := decide_eq_true hn
  have hq : (s.setEvents rest).requestOutstanding = true := (State.requestOutstanding_iff _).mpr hf
  simp only [step, he, perform, hw, if_true, sourceAnswers, hq]
  rfl

/-- Settles O28: the step is `State.endFailed`. -/
theorem failedAnswerAborts : Obligations.FailedAnswerAborts := by
  unfold Obligations.FailedAnswerAborts
  intro s rest n hf he hn
  exact ⟨unspecifiedFrame s.frameDraws, s.frameDraws + 1, step_fail hf he hn⟩

/-! ### The answer that brings a frame (42_framer.md R185) -/

/-- A frame stored in FB reads back byte by byte, and no other address changes (20_memory.md R65). -/
theorem Memory.read_store_frame {m : Memory} {bytes : List Byte} (h : m.wf = true) (hlen : bytes.length = 32)
    (i : Nat) : (m.store 0 bytes).read i = if i < 32 then bytes.getD i 0 else m.read i := by
  rw [Memory.read_store h (by rw [hlen]; decide), if_pos (Nat.zero_le i), Nat.sub_zero]
  split
  · rw [List.getD_eq_getElem _ _ (by omega), List.getD_eq_getElem _ _ (by omega)]
  · rw [List.getD_eq_default _ _ (by omega)]

/-- Settles O27: the step is `step_deliver_midFrame`, and FB is then read by `Memory.read_store_frame`. -/
theorem fullAnswerLoadsFrame : Obligations.FullAnswerLoadsFrame := by
  unfold Obligations.FullAnswerLoadsFrame
  intro s rest hf he hlen hwf
  have htake : (s.stream.take 32).length = 32 := List.length_take_of_le hlen
  refine ⟨s.fb.store 0 (s.stream.take 32), step_deliver_midFrame hf he hlen, fun i hi => ?_, fun i hi => ?_,
    Memory.load_store_frame hwf htake⟩
  · rw [Memory.read_store_frame hwf htake, if_pos hi]
    simp [List.getD_eq_getElem?_getD, hi]
  · rw [Memory.read_store_frame hwf htake, if_neg (by omega)]

/-! ### A silent source, and one that breaks its contract (42_framer.md R183, R199) -/

/-- Settles O39: no move is left and nothing to validate; a read of STATUS is `step_read`. -/
theorem silentSourceBlocks : Obligations.SilentSourceBlocks := by
  unfold Obligations.SilentSourceBlocks
  intro s hf
  refine ⟨fun he => ?_, fun rest he => step_read .status he⟩
  have hq : s.requestOutstanding = true := s.requestOutstanding_iff.mpr hf
  have hnot : s.fstate ≠ .haveCompleteFrame := by rw [hf]; decide
  simp only [step, he, noMove, hnot, if_false, hq, if_true]

/-- Settles O40: the size is checked first, then that a request is outstanding. -/
theorem sourceContractBreachFaults : Obligations.SourceContractBreachFaults := by
  unfold Obligations.SourceContractBreachFaults
  constructor
  · intro s rest a he hf hcount
    have hw : (Event.source a).wellFormed = true := decide_eq_true hcount
    have hq : ¬ (s.setEvents rest).requestOutstanding = true := mt (State.requestOutstanding_iff _).mp hf
    simp only [step, he, perform, hw, if_true, sourceAnswers, if_neg hq]
  · intro s rest a he hcount
    have hw : ¬ (Event.source a).wellFormed = true := by
      rw [Event.wellFormed, SourceAnswer.wellFormed, decide_eq_true_iff]
      exact Nat.not_le.mpr hcount
    simp only [step, he, perform, if_neg hw]

end Sys2Proof.Machine
end

section
/-! SUPPORT. The validate step and its two commits (42_framer.md R187, R188), and what every commit does and nothing else
(R192, R200). -/

namespace Sys2Proof.Machine

/-! ### The frame in FB (30_encoding.md R96) -/

theorem Memory.take_load (m : Memory) (a : Nat) {k n : Nat} (h : k ≤ n) : (m.load a n).take k = m.load a k := by
  induction k generalizing a n with
  | zero => rfl
  | succ k ih =>
    cases n with
    | zero => omega
    | succ n => rw [Memory.load, Memory.load, List.take_succ_cons, ih _ (by omega)]

theorem framePayload_frame (s : State) : framePayload s.frame = s.fb.load 0 31 :=
  s.fb.take_load 0 (by decide)

/-- The frame in FB is valid iff FB[31] is the checksum of FB[0..30]. -/
theorem frameValid_frame_iff (s : State) : frameValid s.frame = true ↔ compute (s.fb.load 0 31) = s.fb.read 31 := by
  have hbyte : frameChecksum s.frame = s.fb.read 31 := s.fb.load_getD 0 32 31 0 (by decide)
  rw [frameValid, framePayload_frame, hbyte, beq_iff_eq]

/-! ### The validate step as a step of the machine -/

theorem State.setEvents_setEvents (s : State) (es es' : List Event) :
    (s.setEvents es).setEvents es' = s.setEvents es' := rfl

/-- The validate step does not look at the events. -/
theorem validate_setEvents (s : State) (rest : List Event) :
    (s.setEvents rest).validate = s.validate.setEvents rest := by
  have hframe : (s.setEvents rest).frame = s.frame := rfl
  rw [State.validate, State.validate, hframe]
  split <;> rfl

/-- With a complete frame in FB a move of the core, and the step with no event left, is the validate step. -/
theorem step_validate {s : State} {rest : List Event} (hf : s.fstate = .haveCompleteFrame)
    (he : s.events = .core :: rest ∨ (s.events = [] ∧ rest = [])) : step s = .next (s.validate.setEvents rest) := by
  rw [← validate_setEvents]
  obtain he | ⟨he, rfl⟩ := he
  · have hf' : (s.setEvents rest).fstate = .haveCompleteFrame := hf
    simp only [step, he, perform, Event.wellFormed, if_true, coreMoves, hf']
  · have hsame : s.setEvents [] = s := by rw [← he]; rfl
    simp only [step, he, noMove, hf, if_true, hsame]

/-- Settles O31: both steps are `step_validate`. -/
theorem validateNeedsNoInput : Obligations.ValidateNeedsNoInput := by
  unfold Obligations.ValidateNeedsNoInput
  intro s rest hf he
  refine ⟨?_, step_validate hf (.inl he)⟩
  have hidle := step_validate (s := s.setEvents []) hf (.inr ⟨rfl, rfl⟩)
  rwa [validate_setEvents, State.setEvents_setEvents] at hidle

/-- Settles O29: the validate step of a frame that is not valid. -/
theorem mismatchCommitSkipsFrame : Obligations.MismatchCommitSkipsFrame := by
  unfold Obligations.MismatchCommitSkipsFrame
  intro s rest hf he hne
  have hinvalid : ¬ frameValid s.frame = true := mt (frameValid_frame_iff s).mp hne
  rw [step_validate hf he, State.validate, if_neg hinvalid]
  rfl

/-- Settles O30: the validate step of a frame that is valid. -/
theorem matchCommitDecodesFrame : Obligations.MatchCommitDecodesFrame := by
  unfold Obligations.MatchCommitDecodesFrame
  intro s rest hf he heq
  have hvalid : frameValid s.frame = true := (frameValid_frame_iff s).mpr heq
  rw [step_validate hf he, State.validate, if_pos hvalid, framePayload_frame]
  rfl

/-! ### Commits, by the kinds of step (42_framer.md R192, R200) -/

/-- Settles O32: a terminal answer and the validate step commit one outcome and end a busy state; the other kinds emit
none, and but for a reset none of them ends a busy state. -/
theorem oneOutcomePerCommit : Obligations.OneOutcomePerCommit := by
  unfold Obligations.OneOutcomePerCommit
  intro s t h
  cases step_kinds h with
  | reset u hr ht ho => exact .inr ⟨by rw [ht, ← ho]; rfl, fun hn => absurd hr hn⟩
  | quiet hsame _ hf =>
    refine .inr ⟨hsame.out, fun _ => ⟨?_, hsame.lastCode, hsame.lastShortLen⟩⟩
    obtain hf | ⟨-, hf⟩ := hf
    · rw [State.busy, State.busy, hf]
      exact (Bool.eq_false_or_eq_true _).symm
    · exact .inr (t.busy_iff.mpr (.inl hf))
  | load _ _ _ hsame _ hg =>
    exact .inr ⟨hsame.out, fun _ => ⟨.inr (t.busy_iff.mpr (.inr hg)), hsame.lastCode, hsame.lastShortLen⟩⟩
  | terminal f o _ _ hf hc ho =>
    refine .inl ⟨s.busy_iff.mpr (.inl hf), t.not_busy_iff.mpr (.inr ?_), o, hc.out, hc.lastCode, hc.lastShortLen⟩
    obtain ⟨rfl, -⟩ | ⟨rfl, -⟩ | ⟨_, -, -, rfl, -⟩ := ho <;> rw [hc.fstate] <;> rfl
  | validated o hf hc =>
    exact .inl ⟨s.busy_iff.mpr (.inr hf), t.not_busy_iff.mpr (.inl hc.fstate), o, hc.out, hc.lastCode, hc.lastShortLen⟩

/-- A counter at 0xFFFFFFFF that a step leaves alone or counts up once can change only to 0 (42_framer.md R200). -/
theorem eq_zero_of_counted {c d : Word} {p : Prop} [Decidable p] (hd : d = if p then c + 1 else c)
    (hmax : c = 0xFFFFFFFF) (hne : d ≠ c) : d = 0 := by
  have hp : p := by
    by_contra hp
    exact hne (hd.trans (if_neg hp))
  rw [hd, if_pos hp, hmax]
  rfl

/-- Settles O34: only a commit counts, once and modulo 2^32, and no commit writes ILLCMD or OVR. -/
theorem countersWrapSilently : Obligations.CountersWrapSilently := by
  unfold Obligations.CountersWrapSilently
  intro s t h hr
  obtain hs | ⟨f, o, hc⟩ := (step_kinds h).sameFramer_or_committed hr
  · exact ⟨fun _ hne => absurd hs.cntTotal hne, fun _ hne => absurd hs.cntGood hne,
      fun _ hne => absurd hs.cntBadCrc hne, fun _ hne => absurd hs.cntShort hne⟩
  · exact ⟨fun hmax hne => ⟨eq_zero_of_counted hc.cntTotal hmax hne, hc.illcmd, hc.ovr⟩,
      fun hmax hne => ⟨eq_zero_of_counted hc.cntGood hmax hne, hc.illcmd, hc.ovr⟩,
      fun hmax hne => ⟨eq_zero_of_counted hc.cntBadCrc hmax hne, hc.illcmd, hc.ovr⟩,
      fun hmax hne => ⟨eq_zero_of_counted hc.cntShort hmax hne, hc.illcmd, hc.ovr⟩⟩

end Sys2Proof.Machine
end

section
/-! SUPPORT. FRAME.STEP after FRAME.STEP over the reference source (42_framer.md section 4): one frame, the end of the
stream, and from them a whole stream (R191, R193, R194, R196). -/

namespace Sys2Proof.Machine

/-! ### What a run emits and counts -/

/-- From `s` to `t` the outcomes `os` were emitted and counted (10_state.md R28, R33). -/
structure Tallied (s t : State) (os : List FrameOutcome) : Prop where
  out : t.out = s.out ++ os
  cntGood : t.cntGood = s.cntGood + BitVec.ofNat 32 (os.countP fun o => o.code == .decoded)
  cntBadCrc : t.cntBadCrc = s.cntBadCrc + BitVec.ofNat 32 (os.countP fun o => o.code == .checksumMismatch)
  cntShort : t.cntShort = s.cntShort + BitVec.ofNat 32 (os.countP fun o => o.code == .shortFrame)
  cntTotal : t.cntTotal = s.cntTotal +
    BitVec.ofNat 32 (os.countP fun o => o.code == .decoded || o.code == .checksumMismatch)

/-- Counting two runs of outcomes one after the other counts them together. -/
theorem add_countP_append (c : Word) (p : FrameOutcome → Bool) (os ps : List FrameOutcome) :
    c + BitVec.ofNat 32 (os.countP p) + BitVec.ofNat 32 (ps.countP p) = c + BitVec.ofNat 32 ((os ++ ps).countP p) := by
  rw [List.countP_append, BitVec.ofNat_add, BitVec.add_assoc]

theorem Tallied.trans {s t u : State} {os ps : List FrameOutcome} (h : Tallied s t os) (g : Tallied t u ps) :
    Tallied s u (os ++ ps) where
  out := by rw [g.out, h.out, List.append_assoc]
  cntGood := by rw [g.cntGood, h.cntGood, add_countP_append]
  cntBadCrc := by rw [g.cntBadCrc, h.cntBadCrc, add_countP_append]
  cntShort := by rw [g.cntShort, h.cntShort, add_countP_append]
  cntTotal := by rw [g.cntTotal, h.cntTotal, add_countP_append]

/-- A commit emits its one outcome and counts it. -/
theorem Committed.tallied {s t : State} {f : FrameState} {o : FrameOutcome} (hc : Committed s t f o) :
    Tallied s t [o] := by
  refine ⟨hc.out, ?_, ?_, ?_, ?_⟩ <;> rw [add_countP_singleton]
  · simp [hc.cntGood]
  · simp [hc.cntBadCrc]
  · simp [hc.cntShort]
  · simp [hc.cntTotal]

/-- CNT_GOOD and CNT_BADCRC count what CNT_TOTAL counts (10_state.md R44). -/
theorem countP_good_add_bad (os : List FrameOutcome) :
    os.countP (fun o => o.code == .decoded) + os.countP (fun o => o.code == .checksumMismatch) =
      os.countP fun o => o.code == .decoded || o.code == .checksumMismatch := by
  induction os with
  | nil => rfl
  | cons o os ih =>
    simp only [List.countP_cons]
    cases o.code <;> simp <;> omega

theorem Tallied.cntGood_add_cntBadCrc {s t : State} {os : List FrameOutcome} (h : Tallied s t os) :
    t.cntGood + t.cntBadCrc = s.cntGood + s.cntBadCrc +
      BitVec.ofNat 32 (os.countP fun o => o.code == .decoded || o.code == .checksumMismatch) := by
  rw [h.cntGood, h.cntBadCrc, ← countP_good_add_bad, BitVec.ofNat_add]
  ac_rfl

/-! ### One complete frame (42_framer.md R191, R194) -/

/-- The validate step commits the outcome of the frame in FB, a function of its 32 bytes. -/
theorem committed_frameOutcome (s : State) : Committed s s.validate .awaitingFrame (frameOutcome s.frame) := by
  obtain ⟨o, hc, -⟩ := committed_validate s
  have hout : s.validate.out = s.out ++ [frameOutcome s.frame] := by
    rw [State.validate, frameOutcome]
    split <;> rfl
  obtain rfl : o = frameOutcome s.frame := by simpa [hc.out] using hout
  exact hc

theorem validate_events (s : State) : s.validate.events = s.events := by
  rw [State.validate]
  split <;> rfl

theorem frameOutcome_code (frame : List Byte) :
    (frameOutcome frame).code = .decoded ∨ (frameOutcome frame).code = .checksumMismatch := by
  rw [frameOutcome]
  split
  · exact .inl rfl
  · exact .inr rfl

theorem runSteps_add {s t : State} {m : Nat} (n : Nat) (h : runSteps m s = .next t) :
    runSteps (m + n) s = runSteps n t := by
  induction m generalizing s with
  | zero => cases h; rw [Nat.zero_add]
  | succ m ih =>
    rw [Nat.add_right_comm]
    cases hstep : step s with
    | next u =>
      rw [runSteps_succ hstep] at h ⊢
      exact ih h
    | fault | refused => simp only [runSteps, hstep, reduceCtorEq] at h

/-- `s` in the middle of a FRAME.STEP whose write the port has answered. -/
def State.midStep (s : State) (f : FrameState) (fb : Memory) (stream : List Byte) (events : List Event) : State :=
  (s.midFrame f fb stream events).respond .written

/-- A commit at the end of a FRAME.STEP is one of the state before it: till then only FSTATE, FB, the source, the events
and the port have changed. -/
theorem Committed.of_midStep {s t : State} {f g : FrameState} {fb : Memory} {stream : List Byte} {events : List Event}
    {o : FrameOutcome} (h : Committed (s.midStep g fb stream events) t f o) : Committed s t f o :=
  ⟨h.1, h.2, h.3, h.4, h.5, h.6, h.7, h.8, h.9, h.10, h.11, h.12, h.13⟩

/-- The events are no register of the core. -/
theorem Committed.of_setEvents {s t : State} {f : FrameState} {es : List Event} {o : FrameOutcome}
    (h : Committed (s.setEvents es) t f o) : Committed s t f o :=
  ⟨h.1, h.2, h.3, h.4, h.5, h.6, h.7, h.8, h.9, h.10, h.11, h.12, h.13⟩

/-- FRAME.STEP written to CMD while a frame is awaited issues the request, and the port answers the write. -/
theorem step_issue {s : State} {rest : List Event} (hf : s.fstate = .awaitingFrame)
    (he : s.events = commandWrite (encode .frameStep) :: rest) :
    step s = .next (s.midStep .readPending s.fb s.stream rest) := by
  rw [step_commandWrite he, dispatchWord_of_decode (decode_encode _), exec_frameStep_midFrame (s := s.setEvents rest) hf]
  rfl

/-- The answer brings the frame at the source's front into FB. -/
theorem step_answer_frame {s : State} {frame more : List Byte} {rest : List Event} (hlen : frame.length = 32)
    (hs : s.stream = frame ++ more) :
    step (s.midStep .readPending s.fb s.stream (.source (.deliver 32) :: rest)) =
      .next (s.midStep .haveCompleteFrame (s.fb.store 0 frame) more rest) := by
  have hlong : 32 ≤ (frame ++ more).length := by rw [List.length_append, hlen]; omega
  rw [hs, step_deliver_midFrame rfl rfl hlong]
  simp only [State.midStep, State.respond, State.midFrame, List.take_left' hlen, List.drop_left' hlen]

/-- The core's move commits the outcome of the frame in FB and leaves FB and the source alone. -/
theorem step_core_frameOutcome {s : State} {rest : List Event} (hf : s.fstate = .haveCompleteFrame)
    (he : s.events = .core :: rest) :
    ∃ t, step s = .next t ∧ Committed s t .awaitingFrame (frameOutcome s.frame) ∧ t.fb = s.fb ∧
      t.stream = s.stream ∧ t.events = rest := by
  have hstep : step s = .next (s.setEvents rest).validate :=
    (step_validate hf (.inl he)).trans (congrArg _ (validate_setEvents s rest).symm)
  obtain ⟨hfb, hstream⟩ := validate_outside (s.setEvents rest)
  exact ⟨_, hstep, (committed_frameOutcome (s.setEvents rest)).of_setEvents, hfb, hstream, validate_events _⟩

/-- A FRAME.STEP over a complete frame is three steps, issue, answer and validate step, and commits the frame's outcome;
the source then stands at the byte after the frame. -/
theorem runSteps_frameNext {s : State} {frame more : List Byte} {rest : List Event} (hf : s.fstate = .awaitingFrame)
    (hwf : s.fb.wf = true) (hlen : frame.length = 32) (hs : s.stream = frame ++ more)
    (he : s.events = frameNext ++ rest) :
    ∃ t, runSteps 3 s = .next t ∧
      Committed s t .awaitingFrame (frameOutcome frame) ∧ t.fb.wf = true ∧ t.stream = more ∧ t.events = rest := by
  obtain ⟨t, hcore, hc, hfb, hstream, hevents⟩ := step_core_frameOutcome
    (s := s.midStep .haveCompleteFrame (s.fb.store 0 frame) more (.core :: rest)) rfl rfl
  have hframe : (s.midStep .haveCompleteFrame (s.fb.store 0 frame) more (.core :: rest)).frame = frame :=
    Memory.load_store_frame hwf hlen
  have hstored : (s.fb.store 0 frame).wf = true := Memory.store_wf hwf (by rw [hlen]; decide)
  have hissue := step_issue (rest := .source (.deliver 32) :: .core :: rest) hf he
  rw [hframe] at hc
  refine ⟨t, ?_, hc.of_midStep, hfb ▸ hstored, hstream, hevents⟩
  rw [runSteps_succ hissue, runSteps_succ (step_answer_frame hlen hs), runSteps_succ hcore, runSteps]

/-- Settles O35: `runSteps_frameNext` commits the frame's outcome, and each outcome of a frame counts in CNT_TOTAL. -/
theorem frameOutcomeIsolated : Obligations.FrameOutcomeIsolated := by
  unfold Obligations.FrameOutcomeIsolated
  intro s frame more rest hf hwf hlen hs he
  obtain ⟨t, hrun, hc, hfb, hstream, hevents⟩ := runSteps_frameNext hf hwf hlen hs he
  have htotal : t.cntTotal = s.cntTotal + 1 := by rw [hc.cntTotal, if_pos (frameOutcome_code frame)]
  exact ⟨t, hrun, hc.out, hc.fstate, hstream, hevents, htotal, hfb, hc.crc⟩

/-! ### The end of the stream (42_framer.md R184, R186) -/

/-- The outcome of a tail of `r` bytes, `r` below 32. -/
def tailOutcome (r : Nat) : FrameOutcome := if r = 0 then .endOfStream else .shortFrame r

/-- The source's answer of a tail commits the tail's outcome and leaves the source empty. -/
theorem step_tail {s : State} {rest : List Event} (hf : s.fstate = .readPending)
    (he : s.events = .source (.deliver 32) :: rest) (hlt : s.stream.length < 32) :
    ∃ t, step s = .next t ∧
      Committed s t (tailOutcome s.stream.length).finalState (tailOutcome s.stream.length) ∧
      t.stream = [] ∧ t.events = rest := by
  have htake : s.stream.take 32 = s.stream := List.take_of_length_le hlt.le
  by_cases hempty : s.stream = []
  · obtain ⟨fb, draws, hstep⟩ := emptyAnswerEndsStream s rest 32 hf he le_rfl (htake.trans hempty)
    have ho : tailOutcome s.stream.length = .endOfStream := if_pos (List.length_eq_zero_iff.mpr hempty)
    rw [ho]
    exact ⟨_, hstep, ⟨rfl, rfl, rfl, rfl, rfl, rfl, rfl, rfl, .inr ⟨by decide, rfl, rfl⟩, rfl, rfl, rfl, rfl, rfl⟩,
      hempty, rfl⟩
  · have hpos : s.stream.length ≠ 0 := mt List.length_eq_zero_iff.mp hempty
    obtain ⟨fb, draws, hstep⟩ :=
      shortAnswerEndsStream s rest 32 s.stream.length hf he le_rfl (by rw [htake]) (by omega) (by omega)
    have ho : tailOutcome s.stream.length = .shortFrame s.stream.length := if_neg hpos
    rw [ho]
    exact ⟨_, hstep, ⟨rfl, rfl, rfl, rfl, rfl, rfl, rfl, rfl, .inr ⟨nofun, rfl, rfl⟩, rfl, rfl, rfl, rfl, rfl⟩,
      List.drop_of_length_le hlt.le, rfl⟩

/-- Where a run ends whose last outcome `o` is that of a tail. -/
structure StreamEnded (t : State) (o : FrameOutcome) (rest : List Event) : Prop where
  fstate : t.fstate = o.finalState
  lastShortLen : t.lastShortLen = o.shortLen
  stream : t.stream = []
  events : t.events = rest

/-- A FRAME.STEP over a tail is two steps: issue and answer. -/
theorem runSteps_tail {s : State} {rest : List Event} (hf : s.fstate = .awaitingFrame) (hlt : s.stream.length < 32)
    (he : s.events = frameRun 0 ++ rest) :
    ∃ t, runSteps 2 s = .next t ∧ Tallied s t [tailOutcome s.stream.length] ∧
      StreamEnded t (tailOutcome s.stream.length) rest := by
  obtain ⟨t, htail, hc, hstream, hevents⟩ :=
    step_tail (s := s.midStep .readPending s.fb s.stream (.source (.deliver 32) :: rest)) rfl rfl hlt
  have hissue := step_issue (rest := .source (.deliver 32) :: rest) hf he
  refine ⟨t, ?_, hc.of_midStep.tallied, hc.fstate, hc.lastShortLen, hstream, hevents⟩
  rw [runSteps_succ hissue, runSteps_succ htail, runSteps]

/-! ### A whole stream (42_framer.md R193) -/

/-- FRAME.RUN over complete frames and a tail emits and counts each frame's outcome in order and then the tail's. -/
theorem runSteps_frameRun {s : State} {frames : List (List Byte)} {tail : List Byte} {rest : List Event}
    (hf : s.fstate = .awaitingFrame) (hwf : s.fb.wf = true) (hlen : ∀ f ∈ frames, f.length = 32)
    (hs : s.stream = frames.flatten ++ tail) (hlt : tail.length < 32)
    (he : s.events = frameRun frames.length ++ rest) :
    ∃ t, runSteps (3 * frames.length + 2) s = .next t ∧
      Tallied s t (frames.map frameOutcome ++ [tailOutcome tail.length]) ∧
      StreamEnded t (tailOutcome tail.length) rest := by
  induction frames generalizing s with
  | nil =>
    obtain rfl : s.stream = tail := hs
    exact runSteps_tail hf hlt he
  | cons frame frames ih =>
    obtain ⟨hhead, htail⟩ := List.forall_mem_cons.mp hlen
    rw [List.flatten_cons, List.append_assoc] at hs
    obtain ⟨u, hrun, hc, hfb, hstream, hevents⟩ :=
      runSteps_frameNext (rest := frameRun frames.length ++ rest) hf hwf hhead hs he
    obtain ⟨t, hrun', htally, hend⟩ := ih hc.fstate hfb htail hstream hevents
    refine ⟨t, ?_, hc.tallied.trans htally, hend⟩
    have hsteps : 3 * (frame :: frames).length + 2 = 3 + (3 * frames.length + 2) := by
      rw [List.length_cons]
      omega
    rw [hsteps, runSteps_add _ hrun, hrun']

/-! ### How many of a stream's outcomes count where -/

/-- Every frame counts once in CNT_TOTAL. -/
theorem countP_total_frames (frames : List (List Byte)) :
    (frames.map frameOutcome).countP (fun o => o.code == .decoded || o.code == .checksumMismatch) = frames.length := by
  rw [← List.length_map (f := frameOutcome), List.countP_eq_length]
  intro o ho
  obtain ⟨frame, -, rfl⟩ := List.mem_map.mp ho
  simpa using frameOutcome_code frame

/-- No frame's outcome is a short tail. -/
theorem countP_short_frames (frames : List (List Byte)) :
    (frames.map frameOutcome).countP (fun o => o.code == .shortFrame) = 0 := by
  rw [List.countP_eq_zero]
  intro o ho
  obtain ⟨frame, -, rfl⟩ := List.mem_map.mp ho
  obtain h | h := frameOutcome_code frame <;> simp [h]

/-- No tail counts in CNT_TOTAL (10_state.md R28). -/
theorem countP_total_tail (r : Nat) :
    [tailOutcome r].countP (fun o => o.code == .decoded || o.code == .checksumMismatch) = 0 := by
  rw [tailOutcome]
  split <;> rfl

/-- A tail counts in CNT_SHORT, unless it is empty. -/
theorem countP_short_tail (r : Nat) :
    [tailOutcome r].countP (fun o => o.code == .shortFrame) = if r = 0 then 0 else 1 := by
  rw [tailOutcome]
  split <;> rfl

/-! ### The stream law -/

/-- The `k`-th 32 bytes of a stream. -/
def frameAt (stream : List Byte) (k : Nat) : List Byte := (stream.drop (32 * k)).take 32

/-- A stream is its first `q` frames and what follows them. -/
theorem flatten_frameAt_append_drop (stream : List Byte) (q : Nat) :
    ((List.range q).map (frameAt stream)).flatten ++ stream.drop (32 * q) = stream := by
  induction q with
  | zero => rfl
  | succ q ih =>
    have hdrop : stream.drop (32 * (q + 1)) = (stream.drop (32 * q)).drop 32 := by rw [List.drop_drop, Nat.mul_succ]
    rw [List.range_succ, List.map_append, List.flatten_append, List.map_singleton, List.flatten_singleton,
      List.append_assoc, hdrop, frameAt, List.take_append_drop, ih]

theorem frameAt_length {stream : List Byte} {k : Nat} (h : 32 * (k + 1) ≤ stream.length) :
    (frameAt stream k).length = 32 := by
  rw [frameAt, List.length_take, List.length_drop]
  omega

/-- Settles O36: `runSteps_frameRun` over the stream cut into frames; each of them counts once in CNT_TOTAL, and once in
CNT_GOOD or CNT_BADCRC, and the tail in CNT_SHORT. -/
theorem streamLaw : Obligations.StreamLaw := by
  unfold Obligations.StreamLaw
  intro s q r rest hf hwf hlen hr he
  have htail : (s.stream.drop (32 * q)).length = r := by rw [List.length_drop]; omega
  have hframes : ∀ f ∈ (List.range q).map (frameAt s.stream), f.length = 32 := by
    intro f hmem
    obtain ⟨k, hk, rfl⟩ := List.mem_map.mp hmem
    have hlt := List.mem_range.mp hk
    exact frameAt_length (by omega)
  have hcount : ((List.range q).map (frameAt s.stream)).length = q := by rw [List.length_map, List.length_range]
  obtain ⟨t, hrun, htally, hend⟩ := runSteps_frameRun (rest := rest) hf hwf hframes
    (flatten_frameAt_append_drop s.stream q).symm (by rw [htail]; exact hr) (by rw [hcount]; exact he)
  rw [hcount] at hrun
  rw [htail] at htally hend
  have htotal : (((List.range q).map (frameAt s.stream)).map frameOutcome ++ [tailOutcome r]).countP
      (fun o => o.code == .decoded || o.code == .checksumMismatch) = q := by
    rw [List.countP_append, countP_total_frames, countP_total_tail, hcount, Nat.add_zero]
  refine ⟨t, hrun, ?_, ?_, ?_, ?_, ?_, ?_, hend.stream, hend.events⟩
  · rw [htally.out, List.map_map, ← List.append_assoc]
    rfl
  · rw [htally.cntTotal, htotal]
  · rw [htally.cntGood_add_cntBadCrc, htotal]
  · rw [htally.cntShort, List.countP_append, countP_short_frames, countP_short_tail, Nat.zero_add]
    split <;> rfl
  · rw [hend.fstate, tailOutcome]
    split <;> rfl
  · rw [hend.lastShortLen, tailOutcome]
    split
    · next h => rw [h]; rfl
    · exact Nat.mod_eq_of_lt hr

/-! ### A stream of encoded frames (42_framer.md R196) -/

/-- The encoder's frames of the records of a sample (41_decoder.md R170). -/
def sampleFrames (sample : List (Record × Byte × Byte)) : List (List Byte) :=
  sample.map fun x => wireFrame x.1 x.2.1 x.2.2

@[simp] theorem sampleFrames_length (sample : List (Record × Byte × Byte)) :
    (sampleFrames sample).length = sample.length :=
  List.length_map _

theorem length_of_mem_sampleFrames {sample : List (Record × Byte × Byte)} {f : List Byte}
    (h : f ∈ sampleFrames sample) : f.length = 32 := by
  obtain ⟨x, -, rfl⟩ := List.mem_map.mp h
  exact wireFrame_length x.1 x.2.1 x.2.2

theorem map_frameOutcome_sampleFrames (sample : List (Record × Byte × Byte)) :
    (sampleFrames sample).map frameOutcome = sample.map fun x => .decoded x.1 := by
  rw [sampleFrames, List.map_map]
  refine List.map_congr_left fun x _ => ?_
  obtain ⟨-, hdecoded⟩ := encodedFrameDecodes x.1 x.2.1 x.2.2
  rw [Function.comp_apply, hdecoded]

/-- Of a sample's outcomes and the end of the stream after them, the code `Decoded` is that of each record, and
`EndOfStream` that of the end. -/
theorem countP_code_sample (sample : List (Record × Byte × Byte)) (c : OutcomeCode) :
    ((sample.map fun x => FrameOutcome.decoded x.1) ++ [tailOutcome 0]).countP (fun o => o.code == c) =
      (if .decoded = c then sample.length else 0) + (if .endOfStream = c then 1 else 0) := by
  rw [List.countP_append, List.countP_map, List.countP_singleton]
  congr 1
  · by_cases hc : .decoded = c
    · rw [if_pos hc, List.countP_eq_length]
      exact fun x _ => beq_iff_eq.mpr hc
    · rw [if_neg hc, List.countP_eq_zero]
      exact fun x _ => mt beq_iff_eq.mp hc
  · cases c <;> rfl

/-- Settles O37: `runSteps_frameRun` over the encoder's frames, each of which gives `Decoded` of its record, with no
tail. -/
theorem sampleStreamRoundTrip : Obligations.SampleStreamRoundTrip := by
  unfold Obligations.SampleStreamRoundTrip
  intro s sample rest hf hwf hs he
  obtain ⟨t, hrun, htally, hend⟩ := runSteps_frameRun (frames := sampleFrames sample) (tail := []) (rest := rest) hf hwf
    (fun f => length_of_mem_sampleFrames) (by rw [hs, List.append_nil, sampleFrames]) (by decide)
    (by rw [he, sampleFrames_length])
  rw [sampleFrames_length] at hrun
  rw [map_frameOutcome_sampleFrames, List.length_nil] at htally
  refine ⟨t, hrun, ?_, ?_, ?_, ?_, ?_, hend.fstate⟩
  · rw [htally.out, ← List.append_assoc]
    rfl
  · rw [htally.cntTotal, ← countP_good_add_bad, countP_code_sample, countP_code_sample]
    rfl
  · rw [htally.cntGood, countP_code_sample]
    rfl
  · rw [htally.cntBadCrc, countP_code_sample]
    exact BitVec.add_zero _
  · rw [htally.cntShort, countP_code_sample]
    exact BitVec.add_zero _

end Sys2Proof.Machine
end

section
/-! SUPPORT. The control commands (43_control.md): the dispatch of any word in any state, NOP and SRESET. -/

namespace Sys2Proof.Machine

/-! ### Dispatch of any word (43_control.md R230) -/

/-- A word whose OP is no command's raises IllegalCommand, unless the machine is busy (60_exceptions.md R251). -/
theorem dispatchWord_of_illegal {v : Word} (hop : 6 ≤ v.toNat % 256) (s : State) :
    dispatchWord v s = .next (s.unlessBusy fun u => u.raise .illegalCommand) := by
  simp only [dispatchWord, decode_illegal hop]

/-- While BUSY = 1 every word, legal or not, is dropped and sets OVR (60_exceptions.md R253, R256). -/
theorem dispatchWord_of_busy (v : Word) {s : State} (h : s.busy = true) :
    dispatchWord v s = .next { s with ovr := true } := by
  by_cases hop : v.toNat % 256 < 6
  · obtain ⟨i, hd⟩ := (decode_ok_iff v).mpr hop
    rw [dispatchWord_of_decode hd, exec_of_busy i h]
  · rw [dispatchWord_of_illegal (not_lt.mp hop), State.unlessBusy_busy h]
    rfl

/-- No command takes an event, and none is itself an access that the port answers. -/
theorem commandEffect_events_response (i : Instr) (s : State) :
    (commandEffect i s).events = s.events ∧ (commandEffect i s).response = s.response := by
  cases i with
  | frameStep =>
    rw [commandEffect]
    split <;> exact ⟨rfl, rfl⟩
  | nop | crcInit | crcUpd | selftest | sreset => exact ⟨rfl, rfl⟩

/-- Settles O60: busy drops every word; otherwise a legal word has its command's effect, which leaves the source, OUT,
the events and the port alone, and an illegal one raises IllegalCommand. -/
theorem everyCommandWordCompletes : Obligations.EveryCommandWordCompletes := by
  unfold Obligations.EveryCommandWordCompletes
  intro v s
  by_cases hbusy : s.busy = true
  · exact ⟨_, dispatchWord_of_busy v hbusy, rfl, rfl, rfl, rfl, fun _ => rfl,
      fun _ hidle => absurd hbusy (ne_true_of_eq_false hidle)⟩
  · have hidle : s.busy = false := eq_false_of_ne_true hbusy
    by_cases hop : v.toNat % 256 < 6
    · obtain ⟨i, hd⟩ := (decode_ok_iff v).mpr hop
      obtain ⟨hevents, hresponse⟩ := commandEffect_events_response i s
      obtain ⟨hstream, hout, -⟩ := command_sourceUntouched s i
      rw [State.unlessBusy_idle hidle] at hstream hout
      exact ⟨_, (dispatchWord_of_decode hd s).trans (exec_of_idle i hidle), hevents, hstream, hout, hresponse,
        fun h => absurd h hbusy, fun hill => absurd hop (not_lt.mpr hill)⟩
    · refine ⟨{ s with illcmd := true }, ?_, rfl, rfl, rfl, rfl, fun h => absurd h hbusy, fun _ _ => rfl⟩
      rw [dispatchWord_of_illegal (not_lt.mp hop), State.unlessBusy_idle hidle]
      rfl

/-! ### NOP (43_control.md R231) -/

/-- Settles O5: the word by its low byte, the effect by `exec_of_idle`, which for NOP is the same state. -/
theorem nopChangesNothing : Obligations.NopChangesNothing := by
  unfold Obligations.NopChangesNothing
  exact ⟨fun v => (decode_eq_ok_iff v .nop).mpr, fun s => exec_of_idle .nop, fun s => exec_of_busy .nop⟩

/-! ### SRESET (43_control.md R232) -/

theorem State.statusWord_congr {s t : State} (hf : s.fstate = t.fstate) (hd : s.stDone = t.stDone)
    (hp : s.stPass = t.stPass) (hv : s.recValid = t.recValid) (hi : s.illcmd = t.illcmd) (ho : s.ovr = t.ovr) :
    s.statusWord = t.statusWord := by
  simp only [State.statusWord, State.busy, hf, hd, hp, hv, hi, ho]

theorem State.outcomeWord_congr {s t : State} (hc : s.lastCode = t.lastCode) (hl : s.lastShortLen = t.lastShortLen) :
    s.outcomeWord = t.outcomeWord := by
  simp only [State.outcomeWord, hc, hl]

/-- After ResetCore() STATUS reads as in the reset state, whose self-test has passed (10_state.md R36, R43). -/
theorem State.resetCore_statusWord (s : State) : s.resetCore.statusWord = State.reset.statusWord :=
  State.statusWord_congr rfl rfl selfTestPasses_true rfl rfl rfl

/-- After ResetCore() OUTCOME reads as in the reset state (10_state.md R38, R43). -/
theorem State.resetCore_outcomeWord (s : State) : s.resetCore.outcomeWord = State.reset.outcomeWord :=
  State.outcomeWord_congr rfl rfl

/-- An idle machine has no request outstanding, so that a reset abandons none (70_reset_and_hazards.md R280). -/
theorem State.resetCore_abandoned_of_idle {s : State} (h : s.busy = false) : s.resetCore.abandoned = s.abandoned := by
  refine if_neg fun hreq => ?_
  have hbusy : s.busy = true := s.busy_iff.mpr (.inl (s.requestOutstanding_iff.mp hreq))
  exact absurd hbusy (ne_true_of_eq_false h)

/-- A command other than SRESET keeps a terminal framer state (10_state.md R24). -/
theorem exec_fstate_of_terminal {i : Instr} {s t : State} (hi : i ≠ .sreset) (hterm : s.fstate.terminal = true)
    (h : exec i s = .next t) : t.fstate = s.fstate := by
  obtain ⟨-, -, -, hfstate, -⟩ := command_quiet s hi
  rw [exec_eq] at h
  cases h
  refine hfstate.resolve_right fun ⟨hawait, _⟩ => ?_
  rw [hawait] at hterm
  cases hterm

/-- Settles O11: SRESET's effect is `State.resetCore`, whose fields are read off; a terminal state is kept by
`exec_fstate_of_terminal`. -/
theorem sresetRestoresResetValues : Obligations.SresetRestoresResetValues := by
  unfold Obligations.SresetRestoresResetValues
  refine ⟨fun v => (decode_eq_ok_iff v .sreset).mpr, fun s => exec_of_busy .sreset, fun s h => ?_,
    fun i s t => exec_fstate_of_terminal⟩
  obtain ⟨-, hstatus, -, houtcome, -⟩ := resetStateReads
  exact ⟨s.resetCore, exec_of_idle .sreset h, rfl, rfl, rfl, rfl, selfTestPasses_true, rfl, rfl, rfl, rfl, rfl, rfl,
    rfl, rfl, rfl, rfl, s.resetCore_statusWord.trans hstatus, rfl, s.resetCore_outcomeWord.trans houtcome, rfl,
    State.resetCore_abandoned_of_idle h, rfl, rfl⟩

end Sys2Proof.Machine
end

section
/-! SUPPORT. The host-interface errors (60_exceptions.md): what a step does when each of them is raised, and the order
of their checks. -/

namespace Sys2Proof.Machine

/-! ### BusError (60_exceptions.md R254) -/

/-- Every host access, good or bad, is taken from the events and performed. -/
theorem step_host {s : State} {rest : List Event} {a : Access} (he : s.events = .host a :: rest) :
    step s = hostAccess a (s.setEvents rest) := by
  simp only [step, he, perform, Event.wellFormed, if_true]

theorem regRead_of_badAccess {width off : Nat} (hbad : off % 4 ≠ 0 ∨ width ≠ 32 ∨ 0x48 ≤ off) (s : State) :
    regRead width off s = .next (s.raise (.busError off)) := by
  simp only [regRead, (accessedReg_none_iff width off).mpr hbad]

theorem regWrite_of_badAccess {width off : Nat} (hbad : off % 4 ≠ 0 ∨ width ≠ 32 ∨ 0x48 ≤ off) (v : Word) (s : State) :
    regWrite width off v s = .next (s.raise (.busError off)) := by
  simp only [regWrite, (accessedReg_none_iff width off).mpr hbad]

/-- Settles O41: both accesses reach no register, and BusError changes only the port's answer. -/
theorem badAccessIsBusError : Obligations.BadAccessIsBusError := by
  unfold Obligations.BadAccessIsBusError
  exact fun s rest width off v hbad =>
    ⟨fun he => (step_host he).trans (regRead_of_badAccess hbad _),
      fun he => (step_host he).trans (regWrite_of_badAccess hbad v _)⟩

/-! ### CommandOverrun (60_exceptions.md R253) -/

/-- While BUSY = 1 a write of any word to CMD is dropped and sets OVR. -/
theorem step_commandWrite_of_busy {s : State} {rest : List Event} {v : Word} (hbusy : s.busy = true)
    (he : s.events = commandWrite v :: rest) :
    step s = .next { s with events := rest, ovr := true, response := .written } := by
  rw [step_commandWrite he, dispatchWord_of_busy v (s := s.setEvents rest) hbusy]
  rfl

/-- Settles O12: the two framer states are the busy ones. -/
theorem busyDropsEveryCommand : Obligations.BusyDropsEveryCommand := by
  unfold Obligations.BusyDropsEveryCommand
  exact fun s rest v hf => step_commandWrite_of_busy (s.busy_iff.mpr hf)

/-! ### IllegalCommand by opcode (60_exceptions.md R251) -/

/-- When not busy, a write to CMD of a word with an illegal opcode sets ILLCMD. -/
theorem step_commandWrite_of_illegal {s : State} {rest : List Event} {v : Word} (hidle : s.busy = false)
    (hop : 6 ≤ v.toNat % 256) (he : s.events = commandWrite v :: rest) :
    step s = .next { s with events := rest, illcmd := true, response := .written } := by
  rw [step_commandWrite he, dispatchWord_of_illegal hop, State.unlessBusy_idle (s := s.setEvents rest) hidle]
  rfl

/-- Settles O13: the word passes the BUSY check and decodes to no command. -/
theorem illegalOpcodeSetsIllcmd : Obligations.IllegalOpcodeSetsIllcmd := by
  unfold Obligations.IllegalOpcodeSetsIllcmd
  exact fun s rest v => step_commandWrite_of_illegal

/-! ### IllegalCommand by state (60_exceptions.md R252) -/

theorem FrameState.terminal_iff (f : FrameState) :
    f.terminal = true ↔ f = .shortFrame ∨ f = .endOfStream ∨ f = .sourceError := by
  cases f <;> decide

theorem State.idle_of_terminal {s : State} (hterm : s.fstate.terminal = true) : s.busy = false :=
  s.not_busy_iff.mpr (.inr hterm)

/-- A terminal framer state refuses FRAME.STEP: ILLCMD is set. -/
theorem exec_frameStep_of_terminal {s : State} (hterm : s.fstate.terminal = true) :
    exec .frameStep s = .next { s with illcmd := true } := by
  rw [exec_of_idle .frameStep (State.idle_of_terminal hterm), commandEffect, if_pos hterm]
  rfl

/-- Settles O10: the three framer states are the terminal ones. -/
theorem frameStepRefusedWhenTerminal : Obligations.FrameStepRefusedWhenTerminal := by
  unfold Obligations.FrameStepRefusedWhenTerminal
  exact fun s hf => exec_frameStep_of_terminal (s.fstate.terminal_iff.mpr hf)

/-- In a terminal framer state a write to CMD of a FRAME.STEP word sets ILLCMD. -/
theorem step_commandWrite_frameStep_of_terminal {s : State} {rest : List Event} {v : Word}
    (hterm : s.fstate.terminal = true) (hop : v.toNat % 256 = 4) (he : s.events = commandWrite v :: rest) :
    step s = .next { s with events := rest, illcmd := true, response := .written } := by
  have hdecode : decode v = .ok .frameStep := (decode_eq_ok_iff v .frameStep).mpr hop
  rw [step_commandWrite he, dispatchWord_of_decode hdecode, exec_frameStep_of_terminal (s := s.setEvents rest) hterm]
  rfl

/-! ### The order of the checks (60_exceptions.md R256) -/

/-- The reset input takes no notice of the access that it overrides. -/
theorem step_resetInput_overridden {s : State} {rest : List Event} {a : Access} {n : Nat}
    (he : s.events = .resetInput (some a) n :: rest) :
    step s = step { s with events := .resetInput none n :: rest } := by
  simp only [step, he]
  rfl

/-- Settles O50: the earlier of two checks decides; a terminal framer state passes the BUSY check, after which an
illegal opcode and FRAME.STEP both set ILLCMD. -/
theorem checksInPriorityOrder : Obligations.ChecksInPriorityOrder := by
  unfold Obligations.ChecksInPriorityOrder
  refine ⟨fun s rest a n => step_resetInput_overridden, fun s rest v _ he => ?_,
    fun s rest v hbusy _ => step_commandWrite_of_busy hbusy, fun s rest v hterm hop he => ?_⟩
  · have hwidth : 16 ≠ 32 := by decide
    exact (badAccessIsBusError s rest 16 0x00 v (.inr (.inl hwidth))).2 he
  · rcases hop with hstep | hillegal
    · exact step_commandWrite_frameStep_of_terminal hterm hstep he
    · exact step_commandWrite_of_illegal (State.idle_of_terminal hterm) hillegal he

end Sys2Proof.Machine
end

section
/-! SUPPORT. The reset input and the late answer to a request that a reset has abandoned (70_reset_and_hazards.md R280,
R281). -/

namespace Sys2Proof.Machine

/-! ### The reset input (70_reset_and_hazards.md R281) -/

theorem step_resetInput {s : State} {rest : List Event} {a : Option Access} {n : Nat} (hn : n ≤ 32)
    (he : s.events = .resetInput a n :: rest) : step s = .next (resetInput n (s.setEvents rest)) := by
  have hw : (Event.resetInput a n).wellFormed = true := decide_eq_true hn
  simp only [step, he, perform, hw, if_true]

/-- After the reset input STATUS reads as in the reset state, whose self-test has passed (10_state.md R36, R43). -/
theorem resetInput_statusWord (n : Nat) (s : State) : (resetInput n s).statusWord = State.reset.statusWord :=
  State.statusWord_congr rfl rfl selfTestPasses_true rfl rfl rfl

/-- After the reset input OUTCOME reads as in the reset state (10_state.md R38, R43). -/
theorem resetInput_outcomeWord (n : Nat) (s : State) : (resetInput n s).outcomeWord = State.reset.outcomeWord :=
  State.outcomeWord_congr rfl rfl

/-- A reset input while a request is outstanding abandons it, and its bytes are gone from the source. -/
theorem resetInput_source_of_readPending {s : State} (n : Nat) (hf : s.fstate = .readPending) :
    (resetInput n s).abandoned = s.abandoned + 1 ∧ (resetInput n s).stream = s.stream.drop n :=
  have hreq : s.requestOutstanding = true := s.requestOutstanding_iff.mpr hf
  ⟨if_pos hreq, if_pos hreq⟩

/-- A reset input with no request outstanding abandons none and leaves the source alone. -/
theorem resetInput_source_of_ne_readPending {s : State} (n : Nat) (hf : s.fstate ≠ .readPending) :
    (resetInput n s).abandoned = s.abandoned ∧ (resetInput n s).stream = s.stream :=
  have hreq : ¬ s.requestOutstanding = true := mt s.requestOutstanding_iff.mp hf
  ⟨if_neg hreq, if_neg hreq⟩

/-- Settles O52: the reset input runs `State.resetCore`, whose fields are read off; whether a request is outstanding
decides what becomes of the source and of the count of abandoned requests. -/
theorem resetInputActsAtAnyTime : Obligations.ResetInputActsAtAnyTime := by
  unfold Obligations.ResetInputActsAtAnyTime
  intro s rest a n he hn
  obtain ⟨-, hstatus, -, houtcome, -⟩ := resetStateReads
  exact ⟨resetInput n (s.setEvents rest), step_resetInput hn he, rfl, rfl, rfl, rfl, selfTestPasses_true, rfl, rfl,
    rfl, rfl, rfl, rfl, rfl, rfl, rfl, rfl, rfl, (resetInput_statusWord n _).trans hstatus, rfl,
    (resetInput_outcomeWord n _).trans houtcome, resetInput_source_of_readPending (s := s.setEvents rest) n,
    resetInput_source_of_ne_readPending (s := s.setEvents rest) n⟩

/-! ### The late answer (70_reset_and_hazards.md R281) -/

theorem lateAnswers_of_abandoned {s : State} {n : Nat} (h : s.abandoned = n + 1) :
    lateAnswers s = .next { s with abandoned := n } := by
  simp only [lateAnswers, h]

/-- Settles O53: the step takes the event from the list and `lateAnswers` the request from the count. -/
theorem lateAnswerDiscarded : Obligations.LateAnswerDiscarded := by
  unfold Obligations.LateAnswerDiscarded
  intro s rest n he h
  have hw : Event.lateAnswer.wellFormed = true := rfl
  simp only [step, he, perform, hw, if_true]
  exact lateAnswers_of_abandoned (s := s.setEvents rest) h

end Sys2Proof.Machine
end
